-- ==== Sys2Proof/Word.lean ====
section
/-! DEFINITION. The word types of the block: bytes, bus addresses and transaction words
(spec/00_scope.md R8, spec/30_encoding.md R90). -/

namespace Sys2Proof

/-- A register byte (R8). -/
abbrev Byte := BitVec 8

/-- A system bus address (R8, R70). -/
abbrev Addr := BitVec 16

/-- A transaction word `T` (R90). -/
abbrev TWord := BitVec 26

end Sys2Proof
end

