-- ==== Sys2Proof/Config.lean ====
section
/-! DEFINITION. What an implementation fixes (the parameters of spec/00_scope.md R7) and the free value (R116).
The parameters are plain data and stand in the state (`State.params`), which no operation changes: a statement about
every state is a statement about every value of them (assumption log 7). -/

namespace Sys2Proof

/-- The OPEN parameter `FS_PHASE` (R7, R202): whether an FS edge executes the step before or after the increment. -/
inductive FsPhase where
  | pre
  | post
deriving DecidableEq, Repr

/-- The OPEN parameter `DUTY_TABLE` (R7, R229): bit `i` of `d<n>` is `DUTY_TABLE[n][i]`. -/
structure DutyTable where
  d0 : BitVec 8
  d1 : BitVec 8
  d2 : BitVec 8
  d3 : BitVec 8
deriving DecidableEq, Repr

/-- The implementation parameters of R7 that are not fixed by the source. -/
structure Params where
  fsPhase : FsPhase
  fsBitNormal : Fin 8
  fsBitDouble : Fin 8
  duty : DutyTable
  deviceHz : Nat
  sampleHz : Nat
  mixScale : Nat
  nr52FsResetOnEverySet : Bool
deriving DecidableEq, Repr

/-- FREE VALUE: the byte a WRITE returns (R116: "A model returns a draw: any byte, unconstrained"), for the draw of the
given number. It has no body, so nothing can be proved about its value (assumption log 6). -/
opaque Config.freeByte : Nat → Byte

end Sys2Proof
end

