-- ==== Sys2Proof/Syntax.lean ====
section
/-! DEFINITION. The operations of the block, one constructor per row of spec/opcode_table.json
(spec/00_scope.md R3, spec/30_encoding.md R90 to R92). A field the encoding calls ignored (the data byte of a READ word)
is no operand. Every operand has exactly its encoding's width, as its type. -/

namespace Sys2Proof

/-- One operation: a bus WRITE or READ of one address, an ADVANCE of one device cycle, or RESET (R3). -/
inductive Instr where
  /-- WR_NR10 (R162). -/
  | wrNr10 (v : Byte)
  /-- RD_NR10 (R163). -/
  | rdNr10
  /-- WR_NR11 (R164). -/
  | wrNr11 (v : Byte)
  /-- RD_NR11 (R165). -/
  | rdNr11
  /-- WR_NR12 (R166). -/
  | wrNr12 (v : Byte)
  /-- RD_NR12 (R167). -/
  | rdNr12
  /-- WR_NR13 (R168). -/
  | wrNr13 (v : Byte)
  /-- RD_NR13 (R169). -/
  | rdNr13
  /-- WR_NR14 (R170). -/
  | wrNr14 (v : Byte)
  /-- RD_NR14 (R171). -/
  | rdNr14
  /-- WR_NR21 (R172). -/
  | wrNr21 (v : Byte)
  /-- RD_NR21 (R173). -/
  | rdNr21
  /-- WR_NR22 (R174). -/
  | wrNr22 (v : Byte)
  /-- RD_NR22 (R175). -/
  | rdNr22
  /-- WR_NR23 (R176). -/
  | wrNr23 (v : Byte)
  /-- RD_NR23 (R177). -/
  | rdNr23
  /-- WR_NR24 (R178). -/
  | wrNr24 (v : Byte)
  /-- RD_NR24 (R179). -/
  | rdNr24
  /-- WR_NR30 (R180). -/
  | wrNr30 (v : Byte)
  /-- RD_NR30 (R181). -/
  | rdNr30
  /-- WR_NR31 (R182). -/
  | wrNr31 (v : Byte)
  /-- RD_NR31 (R183). -/
  | rdNr31
  /-- WR_NR32 (R184). -/
  | wrNr32 (v : Byte)
  /-- RD_NR32 (R185). -/
  | rdNr32
  /-- WR_NR33 (R186). -/
  | wrNr33 (v : Byte)
  /-- RD_NR33 (R187). -/
  | rdNr33
  /-- WR_NR34 (R188). -/
  | wrNr34 (v : Byte)
  /-- RD_NR34 (R189). -/
  | rdNr34
  /-- WR_NR41 (R190). -/
  | wrNr41 (v : Byte)
  /-- RD_NR41 (R191). -/
  | rdNr41
  /-- WR_NR42 (R192). -/
  | wrNr42 (v : Byte)
  /-- RD_NR42 (R193). -/
  | rdNr42
  /-- WR_NR43 (R194). -/
  | wrNr43 (v : Byte)
  /-- RD_NR43 (R195). -/
  | rdNr43
  /-- WR_NR44 (R196). -/
  | wrNr44 (v : Byte)
  /-- RD_NR44 (R197). -/
  | rdNr44
  /-- WR_NR50 (R124). -/
  | wrNr50 (v : Byte)
  /-- RD_NR50 (R125). -/
  | rdNr50
  /-- WR_NR51 (R126). -/
  | wrNr51 (v : Byte)
  /-- RD_NR51 (R127). -/
  | rdNr51
  /-- WR_NR52 (R122). -/
  | wrNr52 (v : Byte)
  /-- RD_NR52 (R123). -/
  | rdNr52
  /-- WR_WAVE (R129). -/
  | wrWave (k : BitVec 4) (v : Byte)
  /-- RD_WAVE (R128). -/
  | rdWave (k : BitVec 4)
  /-- WR_UNUSED_FF15 (R119). -/
  | wrUnusedFf15 (v : Byte)
  /-- RD_UNUSED_FF15 (R118). -/
  | rdUnusedFf15
  /-- WR_UNUSED_FF1F (R119). -/
  | wrUnusedFf1f (v : Byte)
  /-- RD_UNUSED_FF1F (R118). -/
  | rdUnusedFf1f
  /-- WR_UNUSED_FF27 (R119). -/
  | wrUnusedFf27 (v : Byte)
  /-- RD_UNUSED_FF27 (R118). -/
  | rdUnusedFf27
  /-- WR_UNUSED_FF28_2F (R119). -/
  | wrUnusedFf28To2f (a : BitVec 3) (v : Byte)
  /-- RD_UNUSED_FF28_2F (R118). -/
  | rdUnusedFf28To2f (a : BitVec 3)
  /-- ADVANCE (R200). -/
  | advance (dsm : Bool) (div : Byte)
  /-- RESET (R330). -/
  | reset
deriving DecidableEq, Repr

end Sys2Proof
end

