-- ==== Sys2Proof/WellFormed.lean ====
section
/-! DEFINITION. Well-formedness. The operands of `Instr` are exactly as wide as their encodings, so what is left to check of an
operation is that its bus address lies in the window (spec/20_memory.md R70), and of the parameters what spec/00_scope.md R7
requires of them. -/

namespace Sys2Proof

/-- The bus address a READ or WRITE goes to (spec/20_memory.md R71); ADVANCE and RESET have none. -/
def Instr.busAddress : Instr → Option Addr
  | .wrNr10 _ => some 0xFF10#16
  | .rdNr10 => some 0xFF10#16
  | .wrNr11 _ => some 0xFF11#16
  | .rdNr11 => some 0xFF11#16
  | .wrNr12 _ => some 0xFF12#16
  | .rdNr12 => some 0xFF12#16
  | .wrNr13 _ => some 0xFF13#16
  | .rdNr13 => some 0xFF13#16
  | .wrNr14 _ => some 0xFF14#16
  | .rdNr14 => some 0xFF14#16
  | .wrNr21 _ => some 0xFF16#16
  | .rdNr21 => some 0xFF16#16
  | .wrNr22 _ => some 0xFF17#16
  | .rdNr22 => some 0xFF17#16
  | .wrNr23 _ => some 0xFF18#16
  | .rdNr23 => some 0xFF18#16
  | .wrNr24 _ => some 0xFF19#16
  | .rdNr24 => some 0xFF19#16
  | .wrNr30 _ => some 0xFF1A#16
  | .rdNr30 => some 0xFF1A#16
  | .wrNr31 _ => some 0xFF1B#16
  | .rdNr31 => some 0xFF1B#16
  | .wrNr32 _ => some 0xFF1C#16
  | .rdNr32 => some 0xFF1C#16
  | .wrNr33 _ => some 0xFF1D#16
  | .rdNr33 => some 0xFF1D#16
  | .wrNr34 _ => some 0xFF1E#16
  | .rdNr34 => some 0xFF1E#16
  | .wrNr41 _ => some 0xFF20#16
  | .rdNr41 => some 0xFF20#16
  | .wrNr42 _ => some 0xFF21#16
  | .rdNr42 => some 0xFF21#16
  | .wrNr43 _ => some 0xFF22#16
  | .rdNr43 => some 0xFF22#16
  | .wrNr44 _ => some 0xFF23#16
  | .rdNr44 => some 0xFF23#16
  | .wrNr50 _ => some 0xFF24#16
  | .rdNr50 => some 0xFF24#16
  | .wrNr51 _ => some 0xFF25#16
  | .rdNr51 => some 0xFF25#16
  | .wrNr52 _ => some 0xFF26#16
  | .rdNr52 => some 0xFF26#16
  | .wrWave k _ => some (0xFF3#12 ++ k)
  | .rdWave k => some (0xFF3#12 ++ k)
  | .wrUnusedFf15 _ => some 0xFF15#16
  | .rdUnusedFf15 => some 0xFF15#16
  | .wrUnusedFf1f _ => some 0xFF1F#16
  | .rdUnusedFf1f => some 0xFF1F#16
  | .wrUnusedFf27 _ => some 0xFF27#16
  | .rdUnusedFf27 => some 0xFF27#16
  | .wrUnusedFf28To2f a _ => some (0x1FE5#13 ++ a)
  | .rdUnusedFf28To2f a => some (0x1FE5#13 ++ a)
  | .advance _ _ => none
  | .reset => none

/-- The window `0xFF10..0xFF3F` the block decodes (spec/20_memory.md R70). -/
def inWindow (a : Addr) : Bool :=
  0xFF10 ≤ a.toNat && a.toNat ≤ 0xFF3F

/-- An operation is well formed when its bus address, if it has one, lies in the window. -/
def Instr.wellFormed (i : Instr) : Bool :=
  match i.busAddress with
  | some a => inWindow a
  | none => true

/-- "a model requires `SAMPLE_HZ >= 1` and `Q >= 1`" (spec/00_scope.md R7), with `Q = DEVICE_HZ div SAMPLE_HZ`. -/
def Params.wellFormed (p : Params) : Bool :=
  decide (1 ≤ p.sampleHz) && decide (1 ≤ p.deviceHz / p.sampleHz)

end Sys2Proof
end

