-- ==== Sys2Proof/Decode.lean ====
section
/-! DEFINITION. The decoder, total on 26-bit words and refusing by name, then the encoder, both from spec/30_encoding.md R90 to R93
and spec/opcode_table.json. -/

namespace Sys2Proof

/-- Why a transaction word is no operation of the block (spec/60_exceptions.md R312 cases 2 and 3). -/
inductive DecodeError where
  /-- A READ or WRITE of an address outside the window. -/
  | outsideWindow
  /-- A word that matches no row for another reason: a nonzero reserved field. -/
  | badEncoding
deriving DecidableEq, Repr

/-- The operation kind `T[25:24]` (R90). -/
def wordKind (t : TWord) : BitVec 2 := t.extractLsb' 24 2

/-- The address `T[23:8]` of a READ or WRITE (R91). -/
def wordAddr (t : TWord) : Addr := t.extractLsb' 8 16

/-- The data byte `T[7:0]` of a WRITE, the divider of an ADVANCE (R91). -/
def wordData (t : TWord) : Byte := t.extractLsb' 0 8

/-- The row of a READ of a single-address register (R92). -/
def decodeReadRegister (a : Addr) : Except DecodeError Instr :=
  match a with
  | 0xFF10#16 => .ok .rdNr10
  | 0xFF11#16 => .ok .rdNr11
  | 0xFF12#16 => .ok .rdNr12
  | 0xFF13#16 => .ok .rdNr13
  | 0xFF14#16 => .ok .rdNr14
  | 0xFF16#16 => .ok .rdNr21
  | 0xFF17#16 => .ok .rdNr22
  | 0xFF18#16 => .ok .rdNr23
  | 0xFF19#16 => .ok .rdNr24
  | 0xFF1A#16 => .ok .rdNr30
  | 0xFF1B#16 => .ok .rdNr31
  | 0xFF1C#16 => .ok .rdNr32
  | 0xFF1D#16 => .ok .rdNr33
  | 0xFF1E#16 => .ok .rdNr34
  | 0xFF20#16 => .ok .rdNr41
  | 0xFF21#16 => .ok .rdNr42
  | 0xFF22#16 => .ok .rdNr43
  | 0xFF23#16 => .ok .rdNr44
  | 0xFF24#16 => .ok .rdNr50
  | 0xFF25#16 => .ok .rdNr51
  | 0xFF26#16 => .ok .rdNr52
  | 0xFF15#16 => .ok .rdUnusedFf15
  | 0xFF1F#16 => .ok .rdUnusedFf1f
  | 0xFF27#16 => .ok .rdUnusedFf27
  | _ => .error .outsideWindow

/-- The row of a WRITE of a single-address register (R92). -/
def decodeWriteRegister (a : Addr) (v : Byte) : Except DecodeError Instr :=
  match a with
  | 0xFF10#16 => .ok (.wrNr10 v)
  | 0xFF11#16 => .ok (.wrNr11 v)
  | 0xFF12#16 => .ok (.wrNr12 v)
  | 0xFF13#16 => .ok (.wrNr13 v)
  | 0xFF14#16 => .ok (.wrNr14 v)
  | 0xFF16#16 => .ok (.wrNr21 v)
  | 0xFF17#16 => .ok (.wrNr22 v)
  | 0xFF18#16 => .ok (.wrNr23 v)
  | 0xFF19#16 => .ok (.wrNr24 v)
  | 0xFF1A#16 => .ok (.wrNr30 v)
  | 0xFF1B#16 => .ok (.wrNr31 v)
  | 0xFF1C#16 => .ok (.wrNr32 v)
  | 0xFF1D#16 => .ok (.wrNr33 v)
  | 0xFF1E#16 => .ok (.wrNr34 v)
  | 0xFF20#16 => .ok (.wrNr41 v)
  | 0xFF21#16 => .ok (.wrNr42 v)
  | 0xFF22#16 => .ok (.wrNr43 v)
  | 0xFF23#16 => .ok (.wrNr44 v)
  | 0xFF24#16 => .ok (.wrNr50 v)
  | 0xFF25#16 => .ok (.wrNr51 v)
  | 0xFF26#16 => .ok (.wrNr52 v)
  | 0xFF15#16 => .ok (.wrUnusedFf15 v)
  | 0xFF1F#16 => .ok (.wrUnusedFf1f v)
  | 0xFF27#16 => .ok (.wrUnusedFf27 v)
  | _ => .error .outsideWindow

/-- A READ word (R92): the wave RAM row and the row of 0xFF28..0xFF2F hold several addresses. The data field is ignored. -/
def decodeRead (a : Addr) : Except DecodeError Instr :=
  if a.extractLsb' 4 12 = 0xFF3#12 then .ok (.rdWave (a.extractLsb' 0 4))
  else if a.extractLsb' 3 13 = 0x1FE5#13 then .ok (.rdUnusedFf28To2f (a.extractLsb' 0 3))
  else decodeReadRegister a

/-- A WRITE word (R92). -/
def decodeWrite (a : Addr) (v : Byte) : Except DecodeError Instr :=
  if a.extractLsb' 4 12 = 0xFF3#12 then .ok (.wrWave (a.extractLsb' 0 4) v)
  else if a.extractLsb' 3 13 = 0x1FE5#13 then .ok (.wrUnusedFf28To2f (a.extractLsb' 0 3) v)
  else decodeWriteRegister a v

/-- An ADVANCE word: `T[23:9]` must be 0 (R90, R93). -/
def decodeAdvance (t : TWord) : Except DecodeError Instr :=
  if t.extractLsb' 9 15 = 0 then .ok (.advance (t.getLsbD 8) (wordData t)) else .error .badEncoding

/-- A RESET word: `T[23:0]` must be 0 (R90, R93). -/
def decodeReset (t : TWord) : Except DecodeError Instr :=
  if t.extractLsb' 0 24 = 0 then .ok .reset else .error .badEncoding

/-- The decoder: total on every 26-bit word (R93). -/
def decode (t : TWord) : Except DecodeError Instr :=
  match wordKind t with
  | 0#2 => decodeRead (wordAddr t)
  | 1#2 => decodeWrite (wordAddr t) (wordData t)
  | 2#2 => decodeAdvance t
  | _ => decodeReset t

/-- The instruction the decoder reads from a row's word `w` of `nbits` bits; a transaction word is 26 bits, so a number with a
bit above bit 25 is none (assumption log 18). -/
def decodeTableWord (nbits w : Nat) : Option Instr :=
  if w % 2 ^ nbits < 2 ^ 26 then
    match decode (BitVec.ofNat 26 (w % 2 ^ nbits)) with
    | .ok i => some i
    | .error _ => none
  else none

/-- The transaction word of a kind, an address and a data byte (R90): `(kind << 24) | (addr << 8) | data`. -/
def packWord (kind : BitVec 2) (addr : Addr) (data : Byte) : TWord := kind ++ addr ++ data

/-- The transaction word of an operation (R90); a READ's ignored data field is 0, its canonical value. -/
def encode : Instr → TWord
  | .wrNr10 v => packWord 1 0xFF10 v
  | .rdNr10 => packWord 0 0xFF10 0
  | .wrNr11 v => packWord 1 0xFF11 v
  | .rdNr11 => packWord 0 0xFF11 0
  | .wrNr12 v => packWord 1 0xFF12 v
  | .rdNr12 => packWord 0 0xFF12 0
  | .wrNr13 v => packWord 1 0xFF13 v
  | .rdNr13 => packWord 0 0xFF13 0
  | .wrNr14 v => packWord 1 0xFF14 v
  | .rdNr14 => packWord 0 0xFF14 0
  | .wrNr21 v => packWord 1 0xFF16 v
  | .rdNr21 => packWord 0 0xFF16 0
  | .wrNr22 v => packWord 1 0xFF17 v
  | .rdNr22 => packWord 0 0xFF17 0
  | .wrNr23 v => packWord 1 0xFF18 v
  | .rdNr23 => packWord 0 0xFF18 0
  | .wrNr24 v => packWord 1 0xFF19 v
  | .rdNr24 => packWord 0 0xFF19 0
  | .wrNr30 v => packWord 1 0xFF1A v
  | .rdNr30 => packWord 0 0xFF1A 0
  | .wrNr31 v => packWord 1 0xFF1B v
  | .rdNr31 => packWord 0 0xFF1B 0
  | .wrNr32 v => packWord 1 0xFF1C v
  | .rdNr32 => packWord 0 0xFF1C 0
  | .wrNr33 v => packWord 1 0xFF1D v
  | .rdNr33 => packWord 0 0xFF1D 0
  | .wrNr34 v => packWord 1 0xFF1E v
  | .rdNr34 => packWord 0 0xFF1E 0
  | .wrNr41 v => packWord 1 0xFF20 v
  | .rdNr41 => packWord 0 0xFF20 0
  | .wrNr42 v => packWord 1 0xFF21 v
  | .rdNr42 => packWord 0 0xFF21 0
  | .wrNr43 v => packWord 1 0xFF22 v
  | .rdNr43 => packWord 0 0xFF22 0
  | .wrNr44 v => packWord 1 0xFF23 v
  | .rdNr44 => packWord 0 0xFF23 0
  | .wrNr50 v => packWord 1 0xFF24 v
  | .rdNr50 => packWord 0 0xFF24 0
  | .wrNr51 v => packWord 1 0xFF25 v
  | .rdNr51 => packWord 0 0xFF25 0
  | .wrNr52 v => packWord 1 0xFF26 v
  | .rdNr52 => packWord 0 0xFF26 0
  | .wrWave k v => packWord 1 (0xFF3#12 ++ k) v
  | .rdWave k => packWord 0 (0xFF3#12 ++ k) 0
  | .wrUnusedFf15 v => packWord 1 0xFF15 v
  | .rdUnusedFf15 => packWord 0 0xFF15 0
  | .wrUnusedFf1f v => packWord 1 0xFF1F v
  | .rdUnusedFf1f => packWord 0 0xFF1F 0
  | .wrUnusedFf27 v => packWord 1 0xFF27 v
  | .rdUnusedFf27 => packWord 0 0xFF27 0
  | .wrUnusedFf28To2f a v => packWord 1 (0x1FE5#13 ++ a) v
  | .rdUnusedFf28To2f a => packWord 0 (0x1FE5#13 ++ a) 0
  | .advance dsm div => packWord 2 (0#15 ++ BitVec.ofBool dsm) div
  | .reset => packWord 3 0 0

/-- The `match` word of the operation's row in spec/opcode_table.json. -/
def Instr.rowMatch : Instr → TWord
  | .wrNr10 _ => 0x1FF1000
  | .rdNr10 => 0xFF1000
  | .wrNr11 _ => 0x1FF1100
  | .rdNr11 => 0xFF1100
  | .wrNr12 _ => 0x1FF1200
  | .rdNr12 => 0xFF1200
  | .wrNr13 _ => 0x1FF1300
  | .rdNr13 => 0xFF1300
  | .wrNr14 _ => 0x1FF1400
  | .rdNr14 => 0xFF1400
  | .wrNr21 _ => 0x1FF1600
  | .rdNr21 => 0xFF1600
  | .wrNr22 _ => 0x1FF1700
  | .rdNr22 => 0xFF1700
  | .wrNr23 _ => 0x1FF1800
  | .rdNr23 => 0xFF1800
  | .wrNr24 _ => 0x1FF1900
  | .rdNr24 => 0xFF1900
  | .wrNr30 _ => 0x1FF1A00
  | .rdNr30 => 0xFF1A00
  | .wrNr31 _ => 0x1FF1B00
  | .rdNr31 => 0xFF1B00
  | .wrNr32 _ => 0x1FF1C00
  | .rdNr32 => 0xFF1C00
  | .wrNr33 _ => 0x1FF1D00
  | .rdNr33 => 0xFF1D00
  | .wrNr34 _ => 0x1FF1E00
  | .rdNr34 => 0xFF1E00
  | .wrNr41 _ => 0x1FF2000
  | .rdNr41 => 0xFF2000
  | .wrNr42 _ => 0x1FF2100
  | .rdNr42 => 0xFF2100
  | .wrNr43 _ => 0x1FF2200
  | .rdNr43 => 0xFF2200
  | .wrNr44 _ => 0x1FF2300
  | .rdNr44 => 0xFF2300
  | .wrNr50 _ => 0x1FF2400
  | .rdNr50 => 0xFF2400
  | .wrNr51 _ => 0x1FF2500
  | .rdNr51 => 0xFF2500
  | .wrNr52 _ => 0x1FF2600
  | .rdNr52 => 0xFF2600
  | .wrWave _ _ => 0x1FF3000
  | .rdWave _ => 0xFF3000
  | .wrUnusedFf15 _ => 0x1FF1500
  | .rdUnusedFf15 => 0xFF1500
  | .wrUnusedFf1f _ => 0x1FF1F00
  | .rdUnusedFf1f => 0xFF1F00
  | .wrUnusedFf27 _ => 0x1FF2700
  | .rdUnusedFf27 => 0xFF2700
  | .wrUnusedFf28To2f _ _ => 0x1FF2800
  | .rdUnusedFf28To2f _ => 0xFF2800
  | .advance _ _ => 0x2000000
  | .reset => 0x3000000

/-- The `mask` of the operation's row in spec/opcode_table.json. -/
def Instr.rowMask : Instr → TWord
  | .wrNr10 _ => 0x3FFFF00
  | .rdNr10 => 0x3FFFF00
  | .wrNr11 _ => 0x3FFFF00
  | .rdNr11 => 0x3FFFF00
  | .wrNr12 _ => 0x3FFFF00
  | .rdNr12 => 0x3FFFF00
  | .wrNr13 _ => 0x3FFFF00
  | .rdNr13 => 0x3FFFF00
  | .wrNr14 _ => 0x3FFFF00
  | .rdNr14 => 0x3FFFF00
  | .wrNr21 _ => 0x3FFFF00
  | .rdNr21 => 0x3FFFF00
  | .wrNr22 _ => 0x3FFFF00
  | .rdNr22 => 0x3FFFF00
  | .wrNr23 _ => 0x3FFFF00
  | .rdNr23 => 0x3FFFF00
  | .wrNr24 _ => 0x3FFFF00
  | .rdNr24 => 0x3FFFF00
  | .wrNr30 _ => 0x3FFFF00
  | .rdNr30 => 0x3FFFF00
  | .wrNr31 _ => 0x3FFFF00
  | .rdNr31 => 0x3FFFF00
  | .wrNr32 _ => 0x3FFFF00
  | .rdNr32 => 0x3FFFF00
  | .wrNr33 _ => 0x3FFFF00
  | .rdNr33 => 0x3FFFF00
  | .wrNr34 _ => 0x3FFFF00
  | .rdNr34 => 0x3FFFF00
  | .wrNr41 _ => 0x3FFFF00
  | .rdNr41 => 0x3FFFF00
  | .wrNr42 _ => 0x3FFFF00
  | .rdNr42 => 0x3FFFF00
  | .wrNr43 _ => 0x3FFFF00
  | .rdNr43 => 0x3FFFF00
  | .wrNr44 _ => 0x3FFFF00
  | .rdNr44 => 0x3FFFF00
  | .wrNr50 _ => 0x3FFFF00
  | .rdNr50 => 0x3FFFF00
  | .wrNr51 _ => 0x3FFFF00
  | .rdNr51 => 0x3FFFF00
  | .wrNr52 _ => 0x3FFFF00
  | .rdNr52 => 0x3FFFF00
  | .wrWave _ _ => 0x3FFF000
  | .rdWave _ => 0x3FFF000
  | .wrUnusedFf15 _ => 0x3FFFF00
  | .rdUnusedFf15 => 0x3FFFF00
  | .wrUnusedFf1f _ => 0x3FFFF00
  | .rdUnusedFf1f => 0x3FFFF00
  | .wrUnusedFf27 _ => 0x3FFFF00
  | .rdUnusedFf27 => 0x3FFFF00
  | .wrUnusedFf28To2f _ _ => 0x3FFF800
  | .rdUnusedFf28To2f _ => 0x3FFF800
  | .advance _ _ => 0x3FFFE00
  | .reset => 0x3FFFFFF

end Sys2Proof
end

