-- ==== Sys2Proof/Machine/Parameters.lean ====
section
/-! DEFINITION. The constants derived from the parameters, and the parameters' default values (spec/00_scope.md R7). -/

namespace Sys2Proof

/-- `Q = DEVICE_HZ div SAMPLE_HZ` (R7, spec/46_mixer_resampler.md R294). -/
def Params.q (p : Params) : Nat := p.deviceHz / p.sampleHz

/-- `RM = DEVICE_HZ mod SAMPLE_HZ` (R7, R294). -/
def Params.rm (p : Params) : Nat := p.deviceHz % p.sampleHz

/-- The divider bit an ADVANCE tests (spec/42_frame_sequencer.md R201). -/
def Params.fsBit (p : Params) (dsm : Bool) : Nat :=
  if dsm then p.fsBitDouble.val else p.fsBitNormal.val

/-- The default duty patterns (spec/43_pulse_channels.md R229): index `i` of the table is bit `i` here. -/
def defaultDuty : DutyTable where
  d0 := 0b10000000
  d1 := 0b10000001
  d2 := 0b11100001
  d3 := 0b01111110

/-- The defaults of R7, with the values spec/95_test_vectors.md takes for `SAMPLE_HZ` and `MIX_SCALE` (assumption log 7). -/
def defaultParams : Params where
  fsPhase := .pre
  fsBitNormal := 4
  fsBitDouble := 5
  duty := defaultDuty
  deviceHz := 1048576
  sampleHz := 44100
  mixScale := 1
  nr52FsResetOnEverySet := false

end Sys2Proof
end

