-- ==== Sys2Proof/Machine/State.lean ====
section
/-! DEFINITION. The state of the machine as plain data (spec/10_state.md R20 to R64), with the model's own fields beside it, the
reasons a step can stop, and the state after RESET (spec/70_reset_and_hazards.md R330). -/

namespace Sys2Proof.Machine

/-- One channel record `CH[c]` (R25): the same fields for all four kinds, "with per-kind unused fields" (R24). -/
structure Channel where
  /-- `reg[0]`: NR10, NR30; no address for channels 2 and 4 (R26). -/
  reg0 : Byte
  /-- `reg[1]`: NRx1. -/
  reg1 : Byte
  /-- `reg[2]`: NRx2. -/
  reg2 : Byte
  /-- `reg[3]`: NRx3. -/
  reg3 : Byte
  /-- `reg[4]`: NRx4, bit 7 the pending trigger (R61), bit 6 the length enable (R29). -/
  reg4 : Byte
  /-- The on flag (R27). -/
  on : Bool
  /-- The length counter, 0..MAXLEN(c). -/
  len : Nat
  /-- The current volume. -/
  envVol : BitVec 4
  /-- The envelope pace latched at trigger. -/
  envPace : BitVec 3
  /-- The envelope direction latched at trigger; true is increase. -/
  envDir : Bool
  /-- The envelope countdown. -/
  envCnt : BitVec 3
  /-- The sweep pace countdown (channel 1). -/
  swCnt : BitVec 3
  /-- The sweep shadow period (channel 1). -/
  shadow : BitVec 11
  /-- The waveform index: 5 bits for wave, its low 3 bits for pulse (R25, R28; assumption log 13). -/
  idx : BitVec 5
  /-- The period counter. -/
  pcnt : BitVec 11
  /-- The linear-feedback shift register (channel 4). -/
  lfsr : BitVec 15
  /-- The noise countdown, 0..917504 (channel 4). -/
  ncnt : Nat
  /-- "a sequencer edge has just occurred" (R62). -/
  edge : Bool
deriving DecidableEq, Repr

/-- `ZERO_CHANNEL`: every field of R25 at 0 (spec/40_register_bank.md R120, spec/70_reset_and_hazards.md R330). -/
def Channel.zero : Channel where
  reg0 := 0
  reg1 := 0
  reg2 := 0
  reg3 := 0
  reg4 := 0
  on := false
  len := 0
  envVol := 0
  envPace := 0
  envDir := false
  envCnt := 0
  swCnt := 0
  shadow := 0
  idx := 0
  pcnt := 0
  lfsr := 0
  ncnt := 0
  edge := false

/-- The channel numbers (R24): 1 and 2 are pulse, 3 is wave, 4 is noise. -/
inductive Ch where
  | c1
  | c2
  | c3
  | c4
deriving DecidableEq, Repr

/-- The resampler state (R60). -/
structure Resampler where
  /-- The output-cycle counter, 1..Q+1 between ADVANCEs. -/
  countdown : Nat
  /-- The running remainder, 0..SAMPLE_HZ-1. -/
  rem : Nat
  /-- The running sample total. -/
  acc : Nat
  /-- The device cycles accumulated since the last sample. -/
  count : Nat
deriving DecidableEq, Repr

/-- The four reasons of spec/60_exceptions.md R312. A refused operation changes no APU state; the refusal is recorded in
`State.refusals` and the run goes on (assumption log 3). -/
inductive RefusalReason where
  /-- Any operation other than RESET while `INIT = 0`. -/
  | beforeReset
  /-- A READ or WRITE of an address outside 0xFF10..0xFF3F. -/
  | outsideWindow
  /-- A transaction word that matches no row for another reason. -/
  | badEncoding
  /-- An operation issued by the output sink while it is being called from inside ADVANCE. -/
  | sinkReentry
deriving DecidableEq, Repr

/-- The result of one operation (spec/00_scope.md R11). -/
inductive OpResult where
  /-- RESET returns nothing; also before the first operation. -/
  | none
  /-- A READ returns a byte (R110). -/
  | readByte (b : Byte)
  /-- A WRITE returns a byte of no meaning (R116). -/
  | writeByte (b : Byte)
  /-- An ADVANCE returns at most one sample pair (left, right) (R295). -/
  | advanced (sample : Option (Nat × Nat))
  /-- The operation was refused (R312). -/
  | refused (reason : RefusalReason)
deriving DecidableEq, Repr

/-- The whole state: the record `APU` of R20 and R64, the record of refusals of R312, and the model's own fields. -/
structure State where
  ch1 : Channel
  ch2 : Channel
  ch3 : Channel
  ch4 : Channel
  nr50 : Byte
  nr51 : Byte
  /-- `POWER`, bit 7 of NR52 (R52). -/
  power : Bool
  /-- Wave RAM: `WAVE[k]` at bus address 0xFF30 + k (R57), as (address, byte) pairs in canonical form; an unlisted
  address reads as `Memory.unlisted` (assumption log 9). -/
  mem : List Host.Cell
  /-- `FS.step` (R58). -/
  fsStep : BitVec 3
  /-- `FS.edgeStep` (R58). -/
  fsEdgeStep : BitVec 3
  /-- `DIVSNAP` (R59). -/
  divSnap : Byte
  /-- `RS` (R60). -/
  rs : Resampler
  /-- `INIT` (R64). -/
  init : Bool
  /-- The refusals recorded so far, oldest first (spec/60_exceptions.md R312). -/
  refusals : List RefusalReason
  /-- The model's own: the parameters of spec/00_scope.md R7, which no operation changes (assumption log 7). -/
  params : Params
  /-- The model's own: the transaction words the host issues next, oldest first (assumption log 1). -/
  pending : List TWord
  /-- The model's own: the transaction words the output sink issues during its next call (assumption log 5). -/
  sinkPlan : List TWord
  /-- The model's own: the latest operation's result (R11, assumption log 10). -/
  result : OpResult
  /-- The model's own: the READ results so far, oldest first (spec/60_exceptions.md R323, assumption log 10). -/
  reads : List Byte
  /-- The model's own: the emitted samples so far, oldest first (R323, assumption log 10). -/
  samples : List (Nat × Nat)
  /-- The model's own: how many free bytes have been drawn (R116, assumption log 6). -/
  draws : Nat
deriving DecidableEq, Repr

/-- The block has no fault outcome: "There are no recoverable error conditions in this subsystem"
(spec/00_scope.md R11, spec/60_exceptions.md R310). So there is no reason for one, and no step answers a fault. -/
inductive Fault where
deriving DecidableEq, Repr

/-- The reasons a step answers a refusal and stops the run. No operation of the block does: what R312 refuses has a next state, in
which the refusal is recorded (`RefusalReason`, assumption log 3). -/
inductive Refusal where
  /-- An operation whose arm of `exec` has no meaning yet would raise it (safe); no arm does. -/
  | notModelled (mnemonic : String)
deriving DecidableEq, Repr

/-- The state right after RESET (spec/70_reset_and_hazards.md R330) of a machine with parameters `p`: every element 0 but `RS.countdown`,
which is `Q = DEVICE_HZ div SAMPLE_HZ`, and `INIT`, which is 1. -/
def State.resetWith (p : Params) : State where
  ch1 := Channel.zero
  ch2 := Channel.zero
  ch3 := Channel.zero
  ch4 := Channel.zero
  nr50 := 0
  nr51 := 0
  power := false
  mem := []
  fsStep := 0
  fsEdgeStep := 0
  divSnap := 0
  rs := { countdown := p.q, rem := 0, acc := 0, count := 0 }
  init := true
  refusals := []
  params := p
  pending := []
  sinkPlan := []
  result := .none
  reads := []
  samples := []
  draws := 0

/-- The machine right after reset, with the default parameters (assumption log 7). -/
def State.reset : State := State.resetWith defaultParams

end Sys2Proof.Machine
end

