-- ==== Sys2Proof/Machine/Ops.lean ====
section
/-! DEFINITION. The named operations over registers, memory, results and the host's queue. A refusal is taken here, in
`State.refuse`; the block has no exception to take and none to return from (spec/60_exceptions.md R310, R314, R315). -/

namespace Sys2Proof.Machine

/-- What a step answers. -/
abbrev StepOutcome := Host.Outcome State Fault Refusal

/-! ### Channel records and their register slots (spec/10_state.md R25, R26) -/

/-- `CH[c]`. -/
def State.ch (s : State) : Ch → Channel
  | .c1 => s.ch1
  | .c2 => s.ch2
  | .c3 => s.ch3
  | .c4 => s.ch4

/-- `CH[c] <- x`. -/
def State.setCh (s : State) (c : Ch) (x : Channel) : State :=
  match c with
  | .c1 => { s with ch1 := x }
  | .c2 => { s with ch2 := x }
  | .c3 => { s with ch3 := x }
  | .c4 => { s with ch4 := x }

/-- The register slots of a channel (R26): `REG(c, i)`. -/
def Channel.reg (x : Channel) : Fin 5 → Byte
  | 0 => x.reg0
  | 1 => x.reg1
  | 2 => x.reg2
  | 3 => x.reg3
  | 4 => x.reg4

/-- `reg[i] <- v`. -/
def Channel.setReg (x : Channel) (i : Fin 5) (v : Byte) : Channel :=
  match i with
  | 0 => { x with reg0 := v }
  | 1 => { x with reg1 := v }
  | 2 => { x with reg2 := v }
  | 3 => { x with reg3 := v }
  | 4 => { x with reg4 := v }

/-- A plain store of a register byte: `CH[c].reg[i] <- v` (spec/41_channel_registers.md R150). -/
def State.storeReg (c : Ch) (i : Fin 5) (v : Byte) (s : State) : State :=
  s.setCh c ((s.ch c).setReg i v)

/-- A read of a register slot through its mask (spec/40_register_bank.md R110, R112). -/
def State.loadReg (c : Ch) (i : Fin 5) (mask : Byte) (s : State) : Byte :=
  (s.ch c).reg i ||| mask

/-! ### Wave RAM (spec/10_state.md R57, spec/40_register_bank.md R115) -/

/-- What an address that is not listed reads as: RESET zeroes the wave table (R57; assumption log 9). -/
def Memory.unlisted : Byte := 0

/-- The byte at an address. -/
def Memory.read : List Host.Cell → Nat → Byte
  | [], _ => Memory.unlisted
  | (a', b) :: m, a => if a' = a then b else Memory.read m a

/-- Take an address out of the list. -/
def Memory.erase : List Host.Cell → Nat → List Host.Cell
  | [], _ => []
  | (a', b) :: m, a => if a' = a then Memory.erase m a else (a', b) :: Memory.erase m a

/-- Put an entry in, before the first greater address. -/
def Memory.insert : List Host.Cell → Nat → Byte → List Host.Cell
  | [], a, b => [(a, b)]
  | (a', b') :: m, a, b => if a < a' then (a, b) :: (a', b') :: m else (a', b') :: Memory.insert m a b

/-- Write a byte and keep the canonical form: a byte equal to what an unlisted address reads as is not listed. -/
def Memory.write (m : List Host.Cell) (a : Nat) (b : Byte) : List Host.Cell :=
  if b = Memory.unlisted then Memory.erase m a else Memory.insert (Memory.erase m a) a b

/-- Every address is at least `lo` and below the end of the window, addresses rise strictly, and no entry holds
`Memory.unlisted`. -/
def Memory.wfFrom (lo : Nat) : List Host.Cell → Bool
  | [] => true
  | (a, b) :: m => decide (lo ≤ a) && decide (a < 0xFF40) && decide (b ≠ Memory.unlisted) && Memory.wfFrom (a + 1) m

/-- The canonical form of the memory: the wave RAM's addresses only (R71), strictly rising, no entry as unlisted. -/
def Memory.wf (m : List Host.Cell) : Bool := Memory.wfFrom 0xFF30 m

/-- The bus address of `WAVE[k]` (R57, spec/20_memory.md R78). -/
def waveAddr (k : BitVec 4) : Nat := 0xFF30 + k.toNat

/-- `WAVE[k]`. -/
def State.waveByte (s : State) (k : BitVec 4) : Byte := Memory.read s.mem (waveAddr k)

/-- `WAVE[k] <- v` (R129). -/
def State.storeWave (k : BitVec 4) (v : Byte) (s : State) : State :=
  { s with mem := Memory.write s.mem (waveAddr k) v }

/-! ### Results and refusals -/

/-- A READ's result (spec/00_scope.md R11, spec/60_exceptions.md R323). -/
def State.answerRead (b : Byte) (s : State) : State :=
  { s with result := .readByte b, reads := s.reads ++ [b] }

/-- A WRITE's result: the next free byte (spec/40_register_bank.md R116). -/
def State.answerWrite (s : State) : State :=
  { s with result := .writeByte (Config.freeByte s.draws), draws := s.draws + 1 }

/-- A refusal (spec/60_exceptions.md R312): recorded, with no change of the APU's state. -/
def State.refuse (reason : RefusalReason) (s : State) : State :=
  { s with refusals := s.refusals ++ [reason], result := .refused reason }

/-- The delivery of a sample to the sink inside an ADVANCE (spec/46_mixer_resampler.md R295): the sample is the ADVANCE's result,
and whatever the sink issues while it is called is refused `SINK_REENTRY` (R312 case 4; assumption log 5). -/
def State.emit (sample : Nat × Nat) (s : State) : State :=
  { s with
    result := .advanced (some sample)
    samples := s.samples ++ [sample]
    refusals := s.refusals ++ s.sinkPlan.map (fun _ => RefusalReason.sinkReentry)
    sinkPlan := [] }

/-- The reason a word with no row is refused (spec/30_encoding.md R93, R312 cases 2 and 3). -/
def decodeReason : DecodeError → RefusalReason
  | .outsideWindow => .outsideWindow
  | .badEncoding => .badEncoding

/-- A word with no row: before the first RESET it is refused `BEFORE_RESET` like every word but RESET's
(spec/95_test_vectors.md B1; assumption log 4), after it with the decoder's reason. -/
def State.refuseWord (e : DecodeError) (s : State) : State :=
  s.refuse (if s.init then decodeReason e else .beforeReset)

/-! ### The shapes every operation takes -/

/-- Any operation but RESET: refused `BEFORE_RESET` while `INIT = 0` (spec/10_state.md R64), else its effect. -/
def admitOp (effect : State → State) (s : State) : StepOutcome :=
  if s.init then .next (effect s) else .next (s.refuse .beforeReset)

/-- A READ (spec/40_register_bank.md R110): the byte, and no other change. -/
def readOp (byte : State → Byte) (s : State) : StepOutcome :=
  admitOp (fun s => s.answerRead (byte s)) s

/-- A WRITE that is not power-gated: NR52 and wave RAM (spec/40_register_bank.md R111). -/
def writeOp (effect : State → State) (s : State) : StepOutcome :=
  admitOp (fun s => (effect s).answerWrite) s

/-- A power-gated WRITE (spec/40_register_bank.md R113): no effect while `POWER = 0`; the byte it returns is drawn either way. -/
def gatedWriteOp (effect : State → State) (s : State) : StepOutcome :=
  writeOp (fun s => if s.power then effect s else s) s

/-! ### The host's queue (spec/20_memory.md R79; assumption log 1) -/

/-- Take the next word the host issues. -/
def State.takeWord (s : State) : Option (TWord × State) :=
  match s.pending with
  | [] => none
  | w :: rest => some (w, { s with pending := rest })

/-- Make `w` the next word the host issues. -/
def State.pushWord (w : TWord) (s : State) : State :=
  { s with pending := w :: s.pending }

/-- `pushWord` for a word given as a number: a number with a bit above bit 25 is no transaction word and is not placed
(assumption log 18). -/
def State.pushTableWord (s : State) (nbits w : Nat) : State :=
  if w % 2 ^ nbits < 2 ^ 26 then s.pushWord (BitVec.ofNat 26 (w % 2 ^ nbits)) else s

end Sys2Proof.Machine
end

