-- ==== Sys2Proof/Machine/Operands.lean ====
section
/-! DEFINITION. The operand forms: the fields of the register bytes (spec/10_state.md R29 to R52, spec/30_encoding.md R95), the
length constants (spec/00_scope.md R7), and the map from bus addresses to register slots and masks
(spec/10_state.md R26, spec/40_register_bank.md R112). -/

namespace Sys2Proof.Machine

/-! ### Length constants -/

/-- `MAXLEN(c)` (spec/00_scope.md R7, spec/41_channel_registers.md R151). -/
def maxLen : Ch → Nat
  | .c3 => 256
  | _ => 64

/-- `LENMASK(c)` (R7, R151). -/
def lenMask : Ch → Byte
  | .c3 => 0xFF
  | _ => 0x3F

/-! ### NRx4 (R29, R34) -/

/-- The length enable `LENEN(c) = reg[4][6]` (R29). -/
def Channel.lenEn (x : Channel) : Bool := x.reg4.getLsbD 6

/-- The stored trigger bit `reg[4][7]` (R34, R61). -/
def Channel.trig (x : Channel) : Bool := x.reg4.getLsbD 7

/-- A pending trigger is acted on: `reg[4][7] <- 0`. -/
def Channel.clearTrig (x : Channel) : Channel := { x with reg4 := x.reg4 &&& 0x7F }

/-- `PERIOD(c) = {reg[4][2:0], reg[3][7:0]}` (R29, spec/20_memory.md R74). -/
def Channel.period (x : Channel) : BitVec 11 := x.reg4.extractLsb' 0 3 ++ x.reg3

/-- The sweep's write-back of a period: `reg[3] <- p[7:0]`, `reg[4][2:0] <- p[10:8]`, bits 7:3 of `reg[4]` kept
(spec/43_pulse_channels.md R227). -/
def Channel.setPeriod (x : Channel) (p : BitVec 11) : Channel :=
  { x with reg3 := p.extractLsb' 0 8, reg4 := x.reg4.extractLsb' 3 5 ++ p.extractLsb' 8 3 }

/-! ### NRx2: volume and envelope, DAC enable (R29, R32) -/

/-- Initial volume `reg[2][7:4]`. -/
def Channel.initVol (x : Channel) : BitVec 4 := x.reg2.extractLsb' 4 4

/-- Configured envelope direction `reg[2][3]`, true is increase. -/
def Channel.cfgDir (x : Channel) : Bool := x.reg2.getLsbD 3

/-- Configured envelope pace `reg[2][2:0]`. -/
def Channel.cfgPace (x : Channel) : BitVec 3 := x.reg2.extractLsb' 0 3

/-- DAC enable of channels 1, 2 and 4: `reg[2][7:3] != 0` (R29). -/
def Channel.volDac (x : Channel) : Bool := x.reg2.extractLsb' 3 5 != 0

/-- DAC enable of channel 3: `reg[0][7]` (R29, R40). -/
def Channel.waveDac (x : Channel) : Bool := x.reg0.getLsbD 7

/-- `DAC(c)` (R29). -/
def State.dac (s : State) : Ch → Bool
  | .c1 => s.ch1.volDac
  | .c2 => s.ch2.volDac
  | .c3 => s.ch3.waveDac
  | .c4 => s.ch4.volDac

/-! ### NR10 (R30), NRx1 (R31), NR32 (R42), NR43 (R48) -/

/-- Sweep pace `reg[0][6:4]`. -/
def Channel.sweepPace (x : Channel) : BitVec 3 := x.reg0.extractLsb' 4 3

/-- Sweep direction `reg[0][3]`, true is decrease. -/
def Channel.sweepDown (x : Channel) : Bool := x.reg0.getLsbD 3

/-- Sweep shift `reg[0][2:0]`. -/
def Channel.sweepShift (x : Channel) : Nat := (x.reg0.extractLsb' 0 3).toNat

/-- Duty select `reg[1][7:6]`. -/
def Channel.dutySel (x : Channel) : BitVec 2 := x.reg1.extractLsb' 6 2

/-- `DUTY_TABLE[d][i]` (spec/43_pulse_channels.md R229). -/
def dutyBit (t : DutyTable) (d : BitVec 2) (i : BitVec 3) : Bool :=
  match d with
  | 0#2 => t.d0.getLsbD i.toNat
  | 1#2 => t.d1.getLsbD i.toNat
  | 2#2 => t.d2.getLsbD i.toNat
  | _ => t.d3.getLsbD i.toNat

/-- Wave output level `reg[2][6:5]`. -/
def Channel.waveLevel (x : Channel) : BitVec 2 := x.reg2.extractLsb' 5 2

/-- Noise clock shift `s = reg[3][7:4]`. -/
def Channel.noiseShift (x : Channel) : Nat := (x.reg3.extractLsb' 4 4).toNat

/-- Noise short mode `reg[3][3]`. -/
def Channel.noiseShort (x : Channel) : Bool := x.reg3.getLsbD 3

/-- Noise clock divisor `r = reg[3][2:0]`. -/
def Channel.noiseDiv (x : Channel) : Nat := (x.reg3.extractLsb' 0 3).toNat

/-! ### The register map (R26, spec/20_memory.md R71) -/

/-- `SLOT(addr)`: the channel and the slot of a channel register, `none` for every other address. -/
def slot (a : Addr) : Option (Ch × Fin 5) :=
  match a with
  | 0xFF10#16 => some (.c1, 0)
  | 0xFF11#16 => some (.c1, 1)
  | 0xFF12#16 => some (.c1, 2)
  | 0xFF13#16 => some (.c1, 3)
  | 0xFF14#16 => some (.c1, 4)
  | 0xFF16#16 => some (.c2, 1)
  | 0xFF17#16 => some (.c2, 2)
  | 0xFF18#16 => some (.c2, 3)
  | 0xFF19#16 => some (.c2, 4)
  | 0xFF1A#16 => some (.c3, 0)
  | 0xFF1B#16 => some (.c3, 1)
  | 0xFF1C#16 => some (.c3, 2)
  | 0xFF1D#16 => some (.c3, 3)
  | 0xFF1E#16 => some (.c3, 4)
  | 0xFF20#16 => some (.c4, 1)
  | 0xFF21#16 => some (.c4, 2)
  | 0xFF22#16 => some (.c4, 3)
  | 0xFF23#16 => some (.c4, 4)
  | _ => none

/-- `MASK(addr)` of a channel register (spec/40_register_bank.md R112); 0 elsewhere (NR50 and NR51 have mask 0x00, NR52 and the
unused addresses have rules of their own). -/
def readMask (a : Addr) : Byte :=
  match a with
  | 0xFF10#16 => 0x80
  | 0xFF11#16 => 0x3F
  | 0xFF12#16 => 0x00
  | 0xFF13#16 => 0xFF
  | 0xFF14#16 => 0xBF
  | 0xFF16#16 => 0x3F
  | 0xFF17#16 => 0x00
  | 0xFF18#16 => 0xFF
  | 0xFF19#16 => 0xBF
  | 0xFF1A#16 => 0x7F
  | 0xFF1B#16 => 0xFF
  | 0xFF1C#16 => 0x9F
  | 0xFF1D#16 => 0xFF
  | 0xFF1E#16 => 0xBF
  | 0xFF20#16 => 0xFF
  | 0xFF21#16 => 0x00
  | 0xFF22#16 => 0x00
  | 0xFF23#16 => 0xBF
  | _ => 0x00

end Sys2Proof.Machine
end

