-- ==== Sys2Proof/Machine/Flags.lean ====
section
/-! DEFINITION. The on flags, the block's only flags (spec/10_state.md R27), as NR52 shows them (R52), and the clock classes of the
frame-sequencer steps (spec/42_frame_sequencer.md R202, R204) that the length, sweep and envelope rules test. -/

namespace Sys2Proof.Machine

/-- `NR52_VALUE() = {POWER, 0b111, CH[4].on, CH[3].on, CH[2].on, CH[1].on}` (R52, spec/40_register_bank.md R123). -/
def State.nr52Value (s : State) : Byte :=
  BitVec.ofBool s.power ++ 0b111#3 ++ BitVec.ofBool s.ch4.on ++ BitVec.ofBool s.ch3.on ++ BitVec.ofBool s.ch2.on
    ++ BitVec.ofBool s.ch1.on

/-- `LENCLK(s)`: s in {0, 2, 4, 6} (R204). -/
def lenClk (step : BitVec 3) : Bool := step == 0 || step == 2 || step == 4 || step == 6

/-- `SWCLK(s)`: s in {2, 6} (R204). -/
def swClk (step : BitVec 3) : Bool := step == 2 || step == 6

/-- `ENVCLK(s)`: s = 7 (R204). -/
def envClk (step : BitVec 3) : Bool := step == 7

/-- `NEXTSTEP()`, the step the next FS edge will execute (R202). -/
def State.nextStep (s : State) : BitVec 3 :=
  match s.params.fsPhase with
  | .pre => s.fsStep
  | .post => s.fsStep + 1

/-- A length counter of `n` after one decrement, and the on flag it leaves: reaching 0 clears the flag
(spec/43_pulse_channels.md R222, spec/41_channel_registers.md R160 quirk 1). -/
def Channel.countLength (x : Channel) : Channel :=
  { x with len := x.len - 1, on := if x.len - 1 = 0 then false else x.on }

end Sys2Proof.Machine
end

