-- ==== Sys2Proof/Machine/ChannelRegisters.lean ====
section
/-! DEFINITION. The channel registers NR10..NR14, NR21..NR24, NR30..NR34, NR41..NR44 (spec/41_channel_registers.md R150 to R197). -/

namespace Sys2Proof.Machine

/-! ### Shared procedures -/

/-- `LENLOAD(c, v)`: `CH[c].len <- MAXLEN(c) - (v and LENMASK(c))` (R151). -/
def State.lenLoad (c : Ch) (v : Byte) (s : State) : State :=
  s.setCh c { s.ch c with len := maxLen c - (v &&& lenMask c).toNat }

/-- A WRITE to NRx1: the store, then the length reload (R150, R151). -/
def State.storeLength (c : Ch) (v : Byte) (s : State) : State :=
  (s.storeReg c 1 v).lenLoad c v

/-- Quirk 1 (R160): the next FS edge does not clock length, and the write enables length from disabled with a counter above 0. -/
def Channel.quirk1 (nextClocks : Bool) (v : Byte) (x : Channel) : Channel :=
  if !nextClocks && v.getLsbD 6 && !x.lenEn && decide (0 < x.len) then x.countLength else x

/-- Quirk 2 (R160): a trigger with length already enabled and a full counter. -/
def Channel.quirk2 (maxLen : Nat) (v : Byte) (x : Channel) : Channel :=
  if v.getLsbD 7 && x.lenEn && decide (x.len = maxLen) then { x with len := x.len - 1 } else x

/-- Quirk 3 (R160): a trigger with an empty counter. -/
def Channel.quirk3 (maxLen : Nat) (v : Byte) (x : Channel) : Channel :=
  if v.getLsbD 7 && decide (x.len = 0) then { x with len := maxLen } else x

/-- `TRIGWRITE(c, v)` (R160): quirks 1, 2, 3, each consulting the length enable before the write, then the store of the byte, which
leaves a trigger bit pending (R161). -/
def Channel.trigWrite (nextClocks : Bool) (maxLen : Nat) (v : Byte) (x : Channel) : Channel :=
  { ((x.quirk1 nextClocks v).quirk2 maxLen v).quirk3 maxLen v with reg4 := v }

/-- `TRIGWRITE(c, v)` on the state. -/
def State.trigWrite (c : Ch) (v : Byte) (s : State) : State :=
  s.setCh c ((s.ch c).trigWrite (lenClk s.nextStep) (maxLen c) v)

/-! ### Channel 1 -/

/-- WR_NR10 (R162): `CH[1].reg[0] <- v`. -/
def execWrNr10 (v : Byte) (s : State) : StepOutcome := gatedWriteOp (State.storeReg .c1 0 v) s

/-- RD_NR10 (R163): `CH[1].reg[0] or 0x80`. -/
def execRdNr10 (s : State) : StepOutcome := readOp (State.loadReg .c1 0 0x80) s

/-- WR_NR11 (R164): `CH[1].reg[1] <- v; LENLOAD(1, v)`. -/
def execWrNr11 (v : Byte) (s : State) : StepOutcome := gatedWriteOp (State.storeLength .c1 v) s

/-- RD_NR11 (R165): `CH[1].reg[1] or 0x3F`. -/
def execRdNr11 (s : State) : StepOutcome := readOp (State.loadReg .c1 1 0x3F) s

/-- WR_NR12 (R166): `CH[1].reg[2] <- v`. -/
def execWrNr12 (v : Byte) (s : State) : StepOutcome := gatedWriteOp (State.storeReg .c1 2 v) s

/-- RD_NR12 (R167): `CH[1].reg[2] or 0x00`. -/
def execRdNr12 (s : State) : StepOutcome := readOp (State.loadReg .c1 2 0x00) s

/-- WR_NR13 (R168): `CH[1].reg[3] <- v`. -/
def execWrNr13 (v : Byte) (s : State) : StepOutcome := gatedWriteOp (State.storeReg .c1 3 v) s

/-- RD_NR13 (R169): `CH[1].reg[3] or 0xFF`. -/
def execRdNr13 (s : State) : StepOutcome := readOp (State.loadReg .c1 3 0xFF) s

/-- WR_NR14 (R170): `TRIGWRITE(1, v)`. -/
def execWrNr14 (v : Byte) (s : State) : StepOutcome := gatedWriteOp (State.trigWrite .c1 v) s

/-- RD_NR14 (R171): `CH[1].reg[4] or 0xBF`. -/
def execRdNr14 (s : State) : StepOutcome := readOp (State.loadReg .c1 4 0xBF) s

/-! ### Channel 2 -/

/-- WR_NR21 (R172): `CH[2].reg[1] <- v; LENLOAD(2, v)`. -/
def execWrNr21 (v : Byte) (s : State) : StepOutcome := gatedWriteOp (State.storeLength .c2 v) s

/-- RD_NR21 (R173): `CH[2].reg[1] or 0x3F`. -/
def execRdNr21 (s : State) : StepOutcome := readOp (State.loadReg .c2 1 0x3F) s

/-- WR_NR22 (R174): `CH[2].reg[2] <- v`. -/
def execWrNr22 (v : Byte) (s : State) : StepOutcome := gatedWriteOp (State.storeReg .c2 2 v) s

/-- RD_NR22 (R175): `CH[2].reg[2] or 0x00`. -/
def execRdNr22 (s : State) : StepOutcome := readOp (State.loadReg .c2 2 0x00) s

/-- WR_NR23 (R176): `CH[2].reg[3] <- v`. -/
def execWrNr23 (v : Byte) (s : State) : StepOutcome := gatedWriteOp (State.storeReg .c2 3 v) s

/-- RD_NR23 (R177): `CH[2].reg[3] or 0xFF`. -/
def execRdNr23 (s : State) : StepOutcome := readOp (State.loadReg .c2 3 0xFF) s

/-- WR_NR24 (R178): `TRIGWRITE(2, v)`. -/
def execWrNr24 (v : Byte) (s : State) : StepOutcome := gatedWriteOp (State.trigWrite .c2 v) s

/-- RD_NR24 (R179): `CH[2].reg[4] or 0xBF`. -/
def execRdNr24 (s : State) : StepOutcome := readOp (State.loadReg .c2 4 0xBF) s

/-! ### Channel 3 -/

/-- WR_NR30 (R180): `CH[3].reg[0] <- v`. -/
def execWrNr30 (v : Byte) (s : State) : StepOutcome := gatedWriteOp (State.storeReg .c3 0 v) s

/-- RD_NR30 (R181): `CH[3].reg[0] or 0x7F`. -/
def execRdNr30 (s : State) : StepOutcome := readOp (State.loadReg .c3 0 0x7F) s

/-- WR_NR31 (R182): `CH[3].reg[1] <- v; LENLOAD(3, v)`. -/
def execWrNr31 (v : Byte) (s : State) : StepOutcome := gatedWriteOp (State.storeLength .c3 v) s

/-- RD_NR31 (R183): `CH[3].reg[1] or 0xFF`. -/
def execRdNr31 (s : State) : StepOutcome := readOp (State.loadReg .c3 1 0xFF) s

/-- WR_NR32 (R184): `CH[3].reg[2] <- v`. -/
def execWrNr32 (v : Byte) (s : State) : StepOutcome := gatedWriteOp (State.storeReg .c3 2 v) s

/-- RD_NR32 (R185): `CH[3].reg[2] or 0x9F`. -/
def execRdNr32 (s : State) : StepOutcome := readOp (State.loadReg .c3 2 0x9F) s

/-- WR_NR33 (R186): `CH[3].reg[3] <- v`. -/
def execWrNr33 (v : Byte) (s : State) : StepOutcome := gatedWriteOp (State.storeReg .c3 3 v) s

/-- RD_NR33 (R187): `CH[3].reg[3] or 0xFF`. -/
def execRdNr33 (s : State) : StepOutcome := readOp (State.loadReg .c3 3 0xFF) s

/-- WR_NR34 (R188): `TRIGWRITE(3, v)`. -/
def execWrNr34 (v : Byte) (s : State) : StepOutcome := gatedWriteOp (State.trigWrite .c3 v) s

/-- RD_NR34 (R189): `CH[3].reg[4] or 0xBF`. -/
def execRdNr34 (s : State) : StepOutcome := readOp (State.loadReg .c3 4 0xBF) s

/-! ### Channel 4 -/

/-- WR_NR41 (R190): `CH[4].reg[1] <- v; LENLOAD(4, v)`. -/
def execWrNr41 (v : Byte) (s : State) : StepOutcome := gatedWriteOp (State.storeLength .c4 v) s

/-- RD_NR41 (R191): `CH[4].reg[1] or 0xFF`. -/
def execRdNr41 (s : State) : StepOutcome := readOp (State.loadReg .c4 1 0xFF) s

/-- WR_NR42 (R192): `CH[4].reg[2] <- v`. -/
def execWrNr42 (v : Byte) (s : State) : StepOutcome := gatedWriteOp (State.storeReg .c4 2 v) s

/-- RD_NR42 (R193): `CH[4].reg[2] or 0x00`. -/
def execRdNr42 (s : State) : StepOutcome := readOp (State.loadReg .c4 2 0x00) s

/-- WR_NR43 (R194): `CH[4].reg[3] <- v`. -/
def execWrNr43 (v : Byte) (s : State) : StepOutcome := gatedWriteOp (State.storeReg .c4 3 v) s

/-- RD_NR43 (R195): `CH[4].reg[3] or 0x00`. -/
def execRdNr43 (s : State) : StepOutcome := readOp (State.loadReg .c4 3 0x00) s

/-- WR_NR44 (R196): `TRIGWRITE(4, v)`. -/
def execWrNr44 (v : Byte) (s : State) : StepOutcome := gatedWriteOp (State.trigWrite .c4 v) s

/-- RD_NR44 (R197): `CH[4].reg[4] or 0xBF`. -/
def execRdNr44 (s : State) : StepOutcome := readOp (State.loadReg .c4 4 0xBF) s

end Sys2Proof.Machine
end

