-- ==== Sys2Proof/Machine/Mixer.lean ====
section
/-! DEFINITION. The mixer and the resampler (spec/46_mixer_resampler.md R290 to R299). -/

namespace Sys2Proof.Machine

/-- The accumulation of one ADVANCE and the countdown (R292, R293). -/
def Resampler.accumulate (p : Params) (sum : Nat) (r : Resampler) : Resampler :=
  { r with acc := r.acc + p.mixScale * sum, count := r.count + 1, countdown := r.countdown - 1 }

/-- The reload after an emission, Bresenham form, with the accumulator reset (R293, R294). -/
def Resampler.reload (p : Params) (r : Resampler) : Resampler :=
  if p.sampleHz ≤ r.rem + p.rm then
    { countdown := p.q + 1, rem := r.rem + p.rm - p.sampleHz, acc := 0, count := 0 }
  else { countdown := p.q, rem := r.rem + p.rm, acc := 0, count := 0 }

/-- `MIX_STEP(sum)` (R299): the resampler afterwards and the sample, if one is produced. -/
def Resampler.mixStep (p : Params) (sum : Nat) (r : Resampler) : Resampler × Option Nat :=
  let a := r.accumulate p sum
  if a.countdown ≠ 0 then (a, none) else (a.reload p, some (a.acc / a.count))

/-- `MIX_STEP` on the state: the ADVANCE's result is the sample pair, both values equal (R295, R296), or none. -/
def State.mix (sum : Nat) (s : State) : State :=
  let m := s.rs.mixStep s.params sum
  let t := { s with rs := m.1 }
  match m.2 with
  | none => { t with result := .advanced none }
  | some x => t.emit (x, x)

end Sys2Proof.Machine
end

