-- ==== Sys2Proof/Machine/PulseChannels.lean ====
section
/-! DEFINITION. The tick of pulse channels 1 and 2 and the steps every channel shares (spec/43_pulse_channels.md R220 to R231). A tick
is a function of one channel record, because "no channel reads another's state" (spec/42_frame_sequencer.md R205): it gives the
record afterwards and the output. -/

namespace Sys2Proof.Machine

/-! ### Steps shared by every channel -/

/-- Step 1 with the DAC disabled (R220): the on flag is cleared and the output is 0. -/
def Channel.dacOff (x : Channel) : Channel × Nat := ({ x with on := false }, 0)

/-- The edge flag is consumed on every path (R220). -/
def Channel.takeEdge (x : Channel) : Channel := { x with edge := false }

/-- Step 3, the length clock (R222). -/
def Channel.lengthClock (clk : Bool) (x : Channel) : Channel :=
  if clk && x.lenEn && decide (0 < x.len) then x.countLength else x

/-- The envelope fields a trigger latches (R221, R272). -/
def Channel.latchEnvelope (x : Channel) : Channel :=
  { x with envVol := x.initVol, envDir := x.cfgDir, envPace := x.cfgPace, envCnt := x.cfgPace }

/-- The cursor a trigger resets (R221, R251): `idx <- 0; pcnt <- PERIOD(c)`. -/
def Channel.resetCursor (x : Channel) : Channel := { x with idx := 0, pcnt := x.period }

/-- The volume after one envelope step: plus or minus 1, clamped to 0..15 (R228). -/
def stepVolume (up : Bool) (vol : BitVec 4) : BitVec 4 :=
  if up then (if vol = 15 then vol else vol + 1) else (if vol = 0 then vol else vol - 1)

/-- A countdown decremented if it is above 0 (R227, R228). -/
def decPace (n : BitVec 3) : BitVec 3 := if n = 0 then 0 else n - 1

/-- `ENVELOPE(c)` (R228). -/
def Channel.envelope (x : Channel) : Channel :=
  if x.envPace = 0 then x
  else if decPace x.envCnt = 0 then { x with envCnt := x.envPace, envVol := stepVolume x.envDir x.envVol }
  else { x with envCnt := decPace x.envCnt }

/-- Step 6, the envelope invocation (R225). -/
def Channel.envelopeClock (clk : Bool) (x : Channel) : Channel := if clk then x.envelope else x

/-! ### Pulse-only steps -/

/-- Step 2, the pulse trigger (R221); `sweeps` is true for channel 1. -/
def Channel.pulseTrigger (sweeps : Bool) (x : Channel) : Channel :=
  let y := ({ x.clearTrig with on := true }).resetCursor.latchEnvelope
  if sweeps then { y with swCnt := 0, shadow := y.period } else y

/-- The period a sweep computation gives, before the saturation test (R227): exact, then `min(new, 0x7FF)`. -/
def Channel.sweepTarget (x : Channel) : Nat :=
  let p := x.shadow.toNat
  let d := p / 2 ^ x.sweepShift
  min (if x.sweepDown then p - d else p + d) 0x7FF

/-- The sweep computation (R227): on saturation the channel is disabled and nothing is written back. -/
def Channel.sweepCompute (x : Channel) : Channel :=
  if 0x7FF ≤ x.sweepTarget then { x with swCnt := x.sweepPace, on := false }
  else
    { x.setPeriod (BitVec.ofNat 11 x.sweepTarget) with
      swCnt := x.sweepPace
      shadow := BitVec.ofNat 11 x.sweepTarget }

/-- `SWEEP()` (R227). -/
def Channel.sweep (x : Channel) : Channel :=
  if x.sweepPace = 0 then x
  else if decPace x.swCnt = 0 then x.sweepCompute
  else { x with swCnt := decPace x.swCnt }

/-- Step 7 (R226): the 11-bit period counter, reloaded when it passes 0x7FF, and the duty index modulo 8. -/
def Channel.pulseCount (x : Channel) : Channel :=
  if x.pcnt = 0x7FF then { x with pcnt := x.period, idx := (x.idx + 1) &&& 7 } else { x with pcnt := x.pcnt + 1 }

/-- Step 8 (R230): the duty bit times the volume. -/
def Channel.pulseOutput (t : DutyTable) (x : Channel) : Nat :=
  if dutyBit t x.dutySel (x.idx.extractLsb' 0 3) then x.envVol.toNat else 0

/-- Steps 6 to 8 of a pulse tick. -/
def Channel.pulseVoice (t : DutyTable) (env : Bool) (x : Channel) : Channel × Nat :=
  let y := (x.envelopeClock env).pulseCount
  (y, y.pulseOutput t)

/-- Steps 4 to 8 of a pulse tick, with `sweepNow` the condition of step 5 (R223, R224). -/
def Channel.pulsePlay (t : DutyTable) (sweepNow env : Bool) (x : Channel) : Channel × Nat :=
  if !x.on then (x, 0)
  else
    let y := if sweepNow then x.sweep else x
    if !y.on then (y, 0) else y.pulseVoice t env

/-- `TICK_PULSE(c)` (R231) with the executed step `step = FS.edgeStep`; `sweeps` is true for channel 1. -/
def Channel.tickPulse (sweeps : Bool) (t : DutyTable) (step : BitVec 3) (x : Channel) : Channel × Nat :=
  let y := x.takeEdge
  if !y.volDac then y.dacOff
  else
    let z := if y.trig then y.pulseTrigger sweeps else y
    (z.lengthClock (x.edge && lenClk step)).pulsePlay t (sweeps && ((x.edge && swClk step) || y.trig)) (x.edge && envClk step)

end Sys2Proof.Machine
end

