-- ==== Sys2Proof/Machine/NoiseChannel.lean ====
section
/-! DEFINITION. The tick of noise channel 4 (spec/45_noise_channel.md R270 to R278). -/

namespace Sys2Proof.Machine

/-- `NOISEPERIOD()` (R271), exact on naturals. -/
def Channel.noisePeriod (x : Channel) : Nat :=
  if x.noiseDiv = 0 then 2 ^ (x.noiseShift + 1) / 2 else 2 ^ (x.noiseShift + 1) * x.noiseDiv

/-- Step 2, the noise trigger (R272). -/
def Channel.noiseTrigger (x : Channel) : Channel :=
  { ({ x.clearTrig with on := true }).latchEnvelope with lfsr := 0x7FFF, ncnt := 2 * x.noisePeriod }

/-- The feedback bit of the LFSR (R274): bit 0 xor bit 1. -/
def lfsrFeedback (x : BitVec 15) : Bool := x.getLsbD 0 ^^ x.getLsbD 1

/-- `LFSR_STEP()` (R274): shift right, inject the feedback at bit 14 and, in short mode, at bit 6 as well. -/
def lfsrStep (short : Bool) (x : BitVec 15) : BitVec 15 :=
  let y : BitVec 15 := BitVec.ofBool (lfsrFeedback x) ++ x.extractLsb' 1 14
  if short then (if lfsrFeedback x then y ||| 0x40 else y &&& 0x7FBF) else y

/-- The countdown evaluation (R275): the test is made before the decrement. -/
def Channel.noiseCount (x : Channel) : Channel :=
  if x.ncnt = 0 then { x with lfsr := lfsrStep x.noiseShort x.lfsr, ncnt := 2 * x.noisePeriod }
  else { x with ncnt := x.ncnt - 1 }

/-- The output (R276): LFSR bit 0 times the volume. -/
def Channel.noiseOutput (x : Channel) : Nat := if x.lfsr.getLsbD 0 then x.envVol.toNat else 0

/-- Steps 4, 6, the countdown and the output of a noise tick. -/
def Channel.noisePlay (env : Bool) (x : Channel) : Channel × Nat :=
  if !x.on then (x, 0)
  else
    let y := (x.envelopeClock env).noiseCount
    (y, y.noiseOutput)

/-- `TICK_NOISE()` (R277). -/
def Channel.tickNoise (step : BitVec 3) (x : Channel) : Channel × Nat :=
  let y := x.takeEdge
  if !y.volDac then y.dacOff
  else
    let z := if y.trig then y.noiseTrigger else y
    (z.lengthClock (x.edge && lenClk step)).noisePlay (x.edge && envClk step)

end Sys2Proof.Machine
end

