-- ==== Sys2Proof/Machine/WaveChannel.lean ====
section
/-! DEFINITION. The sub-tick of wave channel 3 (spec/44_wave_channel.md R250 to R256). -/

namespace Sys2Proof.Machine

/-- Step 2, the wave trigger (R251): "trigger resets the sample cursor only". -/
def Channel.waveTrigger (x : Channel) : Channel := ({ x.clearTrig with on := true }).resetCursor

/-- Step 7 (R253): the period counter and the 32-step cursor. -/
def Channel.waveCount (x : Channel) : Channel :=
  if x.pcnt = 0x7FF then { x with pcnt := x.period, idx := x.idx + 1 } else { x with pcnt := x.pcnt + 1 }

/-- The nibble at a cursor position (R254): low nibble on even positions, high nibble on odd ones. -/
def waveNibble (mem : List Host.Cell) (idx : BitVec 5) : BitVec 4 :=
  let b := Memory.read mem (waveAddr (idx.extractLsb' 1 4))
  if idx.getLsbD 0 then b.extractLsb' 4 4 else b.extractLsb' 0 4

/-- Step 8 (R254): `nibble >> (level - 1)`, 0 for level 0. -/
def Channel.waveOutput (mem : List Host.Cell) (x : Channel) : Nat :=
  if x.waveLevel = 0 then 0 else (waveNibble mem x.idx).toNat / 2 ^ (x.waveLevel.toNat - 1)

/-- Steps 4, 7 and 8 of a wave sub-tick. -/
def Channel.wavePlay (mem : List Host.Cell) (x : Channel) : Channel × Nat :=
  if !x.on then (x, 0) else (x.waveCount, x.waveCount.waveOutput mem)

/-- `TICK_WAVE()`, one sub-tick (R255). -/
def Channel.tickWave (mem : List Host.Cell) (step : BitVec 3) (x : Channel) : Channel × Nat :=
  let y := x.takeEdge
  if !y.waveDac then y.dacOff
  else
    let z := if y.trig then y.waveTrigger else y
    (z.lengthClock (x.edge && lenClk step)).wavePlay mem

/-- The two sub-ticks of an ADVANCE and their average, rounded down (R252). -/
def Channel.tickWaveTwice (mem : List Host.Cell) (step : BitVec 3) (x : Channel) : Channel × Nat :=
  let a := x.tickWave mem step
  let b := a.1.tickWave mem step
  (b.1, (a.2 + b.2) / 2)

end Sys2Proof.Machine
end

