-- ==== Sys2Proof/Machine/FrameSequencer.lean ====
section
/-! DEFINITION. ADVANCE and the frame sequencer (spec/42_frame_sequencer.md R200 to R208). -/

namespace Sys2Proof.Machine

/-- The FS edge test of `FS_DETECT` (R201): the bit chosen by the current `dsm` falls from the previous to the current divider. -/
def fsEdgeSeen (p : Params) (dsm : Bool) (prev div : Byte) : Bool :=
  prev.getLsbD (p.fsBit dsm) && !div.getLsbD (p.fsBit dsm)

/-- `FS_EDGE()` (R203). -/
def State.fsEdge (s : State) : State :=
  { s with
    fsEdgeStep := s.nextStep
    fsStep := s.fsStep + 1
    ch1 := { s.ch1 with edge := true }
    ch2 := { s.ch2 with edge := true }
    ch3 := { s.ch3 with edge := true }
    ch4 := { s.ch4 with edge := true } }

/-- `if FS_DETECT(div, dsm): FS_EDGE()` (R201, R205). -/
def State.fsClock (dsm : Bool) (div : Byte) (s : State) : State :=
  let t := { s with divSnap := div }
  if fsEdgeSeen s.params dsm s.divSnap div then t.fsEdge else t

/-- The channel ticks of an ADVANCE and the sum of their outputs (R205, spec/46_mixer_resampler.md R290). -/
def State.tickChannels (s : State) : State × Nat :=
  let t1 := s.ch1.tickPulse true s.params.duty s.fsEdgeStep
  let t2 := s.ch2.tickPulse false s.params.duty s.fsEdgeStep
  let t3 := s.ch3.tickWaveTwice s.mem s.fsEdgeStep
  let t4 := s.ch4.tickNoise s.fsEdgeStep
  ({ s with ch1 := t1.1, ch2 := t2.1, ch3 := t3.1, ch4 := t4.1 }, t1.2 + t2.2 + t3.2 + t4.2)

/-- `ADVANCE(div, dsm)` (R205); not gated by `POWER` (R206). -/
def State.advance (dsm : Bool) (div : Byte) (s : State) : State :=
  let t := (s.fsClock dsm div).tickChannels
  t.1.mix t.2

/-- ADVANCE (R200). -/
def execAdvance (dsm : Bool) (div : Byte) (s : State) : StepOutcome := admitOp (State.advance dsm div) s

end Sys2Proof.Machine
end

