-- ==== Sys2Proof/Machine/RegisterBank.lean ====
section
/-! DEFINITION. The power register, the mixer registers, wave RAM and the unused addresses
(spec/40_register_bank.md R114 to R129). -/

namespace Sys2Proof.Machine

/-! ### NR52 -/

/-- `POWER_OFF()` (R120): every channel record and both mixer registers become zero and `POWER` becomes 0; wave RAM, the frame
sequencer, the divider snapshot and the resampler are unchanged. -/
def State.powerOff (s : State) : State :=
  { s with
    ch1 := Channel.zero
    ch2 := Channel.zero
    ch3 := Channel.zero
    ch4 := Channel.zero
    nr50 := 0
    nr51 := 0
    power := false }

/-- `POWER_ON()` (R121): `FS.step` becomes 0 on the off-to-on transition, or on every such write where the parameter says so. -/
def State.powerOn (s : State) : State :=
  { s with
    fsStep := if !s.power || s.params.nr52FsResetOnEverySet then 0 else s.fsStep
    power := true }

/-- The power procedure of a byte written to NR52 (R122): bit 7 alone decides. -/
def State.writeNr52 (v : Byte) (s : State) : State :=
  if v.getLsbD 7 then s.powerOn else s.powerOff

/-- WR_NR52 (R122), not power-gated. -/
def execWrNr52 (v : Byte) (s : State) : StepOutcome := writeOp (State.writeNr52 v) s

/-- RD_NR52 (R123). -/
def execRdNr52 (s : State) : StepOutcome := readOp State.nr52Value s

/-! ### NR50 and NR51: stored and read back, never applied (R296) -/

/-- WR_NR50 (R124). -/
def execWrNr50 (v : Byte) (s : State) : StepOutcome := gatedWriteOp (fun s => { s with nr50 := v }) s

/-- RD_NR50 (R125). -/
def execRdNr50 (s : State) : StepOutcome := readOp (fun s => s.nr50) s

/-- WR_NR51 (R126). -/
def execWrNr51 (v : Byte) (s : State) : StepOutcome := gatedWriteOp (fun s => { s with nr51 := v }) s

/-- RD_NR51 (R127). -/
def execRdNr51 (s : State) : StepOutcome := readOp (fun s => s.nr51) s

/-! ### Wave RAM: no mask, not power-gated (R115) -/

/-- WR_WAVE (R129). -/
def execWrWave (k : BitVec 4) (v : Byte) (s : State) : StepOutcome := writeOp (State.storeWave k v) s

/-- RD_WAVE (R128). -/
def execRdWave (k : BitVec 4) (s : State) : StepOutcome := readOp (fun s => s.waveByte k) s

/-! ### Unused addresses (R114): read 0xFF, writes discarded -/

/-- A WRITE to an unused address (R119): no state changes. -/
def discardWrite (s : State) : StepOutcome := gatedWriteOp (fun s => s) s

/-- A READ of an unused address (R118). -/
def readUnused (s : State) : StepOutcome := readOp (fun _ => 0xFF) s

/-- WR_UNUSED_FF15 (R119). -/
def execWrUnusedFf15 (_v : Byte) (s : State) : StepOutcome := discardWrite s

/-- RD_UNUSED_FF15 (R118). -/
def execRdUnusedFf15 (s : State) : StepOutcome := readUnused s

/-- WR_UNUSED_FF1F (R119). -/
def execWrUnusedFf1f (_v : Byte) (s : State) : StepOutcome := discardWrite s

/-- RD_UNUSED_FF1F (R118). -/
def execRdUnusedFf1f (s : State) : StepOutcome := readUnused s

/-- WR_UNUSED_FF27 (R119). -/
def execWrUnusedFf27 (_v : Byte) (s : State) : StepOutcome := discardWrite s

/-- RD_UNUSED_FF27 (R118). -/
def execRdUnusedFf27 (s : State) : StepOutcome := readUnused s

/-- WR_UNUSED_FF28_2F (R119): any of the eight addresses 0xFF28 + a. -/
def execWrUnusedFf28To2f (_a : BitVec 3) (_v : Byte) (s : State) : StepOutcome := discardWrite s

/-- RD_UNUSED_FF28_2F (R118): any of the eight addresses 0xFF28 + a. -/
def execRdUnusedFf28To2f (_a : BitVec 3) (s : State) : StepOutcome := readUnused s

end Sys2Proof.Machine
end

