-- ==== Sys2Proof/Machine/Reset.lean ====
section
/-! DEFINITION. RESET (spec/70_reset_and_hazards.md R330). -/

namespace Sys2Proof.Machine

/-- `RESET()` (R330): the APU's state becomes that of `State.resetWith`; the refusals already recorded, the observations and the
host's inputs are not the APU's and stay (assumption log 23). -/
def State.resetApu (s : State) : State :=
  { State.resetWith s.params with
    refusals := s.refusals
    pending := s.pending
    sinkPlan := s.sinkPlan
    reads := s.reads
    samples := s.samples
    draws := s.draws }

/-- RESET (R330): "accepted in any state, including `INIT = 0` and including a state after refusals". -/
def execReset (s : State) : StepOutcome := .next s.resetApu

end Sys2Proof.Machine
end

