-- ==== Sys2Proof/Machine/Dispatch.lean ====
section
/-! DEFINITION. The dispatch: one arm per constructor of `Instr`. -/

namespace Sys2Proof.Machine

def exec (i : Instr) (s : State) : Host.Outcome State Fault Refusal :=
  match i with
  | .wrNr10 v => Sys2Proof.Machine.execWrNr10 v s
  | .rdNr10 => Sys2Proof.Machine.execRdNr10 s
  | .wrNr11 v => Sys2Proof.Machine.execWrNr11 v s
  | .rdNr11 => Sys2Proof.Machine.execRdNr11 s
  | .wrNr12 v => Sys2Proof.Machine.execWrNr12 v s
  | .rdNr12 => Sys2Proof.Machine.execRdNr12 s
  | .wrNr13 v => Sys2Proof.Machine.execWrNr13 v s
  | .rdNr13 => Sys2Proof.Machine.execRdNr13 s
  | .wrNr14 v => Sys2Proof.Machine.execWrNr14 v s
  | .rdNr14 => Sys2Proof.Machine.execRdNr14 s
  | .wrNr21 v => Sys2Proof.Machine.execWrNr21 v s
  | .rdNr21 => Sys2Proof.Machine.execRdNr21 s
  | .wrNr22 v => Sys2Proof.Machine.execWrNr22 v s
  | .rdNr22 => Sys2Proof.Machine.execRdNr22 s
  | .wrNr23 v => Sys2Proof.Machine.execWrNr23 v s
  | .rdNr23 => Sys2Proof.Machine.execRdNr23 s
  | .wrNr24 v => Sys2Proof.Machine.execWrNr24 v s
  | .rdNr24 => Sys2Proof.Machine.execRdNr24 s
  | .wrNr30 v => Sys2Proof.Machine.execWrNr30 v s
  | .rdNr30 => Sys2Proof.Machine.execRdNr30 s
  | .wrNr31 v => Sys2Proof.Machine.execWrNr31 v s
  | .rdNr31 => Sys2Proof.Machine.execRdNr31 s
  | .wrNr32 v => Sys2Proof.Machine.execWrNr32 v s
  | .rdNr32 => Sys2Proof.Machine.execRdNr32 s
  | .wrNr33 v => Sys2Proof.Machine.execWrNr33 v s
  | .rdNr33 => Sys2Proof.Machine.execRdNr33 s
  | .wrNr34 v => Sys2Proof.Machine.execWrNr34 v s
  | .rdNr34 => Sys2Proof.Machine.execRdNr34 s
  | .wrNr41 v => Sys2Proof.Machine.execWrNr41 v s
  | .rdNr41 => Sys2Proof.Machine.execRdNr41 s
  | .wrNr42 v => Sys2Proof.Machine.execWrNr42 v s
  | .rdNr42 => Sys2Proof.Machine.execRdNr42 s
  | .wrNr43 v => Sys2Proof.Machine.execWrNr43 v s
  | .rdNr43 => Sys2Proof.Machine.execRdNr43 s
  | .wrNr44 v => Sys2Proof.Machine.execWrNr44 v s
  | .rdNr44 => Sys2Proof.Machine.execRdNr44 s
  | .wrNr50 v => Sys2Proof.Machine.execWrNr50 v s
  | .rdNr50 => Sys2Proof.Machine.execRdNr50 s
  | .wrNr51 v => Sys2Proof.Machine.execWrNr51 v s
  | .rdNr51 => Sys2Proof.Machine.execRdNr51 s
  | .wrNr52 v => Sys2Proof.Machine.execWrNr52 v s
  | .rdNr52 => Sys2Proof.Machine.execRdNr52 s
  | .wrWave k v => Sys2Proof.Machine.execWrWave k v s
  | .rdWave k => Sys2Proof.Machine.execRdWave k s
  | .wrUnusedFf15 v => Sys2Proof.Machine.execWrUnusedFf15 v s
  | .rdUnusedFf15 => Sys2Proof.Machine.execRdUnusedFf15 s
  | .wrUnusedFf1f v => Sys2Proof.Machine.execWrUnusedFf1f v s
  | .rdUnusedFf1f => Sys2Proof.Machine.execRdUnusedFf1f s
  | .wrUnusedFf27 v => Sys2Proof.Machine.execWrUnusedFf27 v s
  | .rdUnusedFf27 => Sys2Proof.Machine.execRdUnusedFf27 s
  | .wrUnusedFf28To2f a v => Sys2Proof.Machine.execWrUnusedFf28To2f a v s
  | .rdUnusedFf28To2f a => Sys2Proof.Machine.execRdUnusedFf28To2f a s
  | .advance dsm div => Sys2Proof.Machine.execAdvance dsm div s
  | .reset => Sys2Proof.Machine.execReset s

end Sys2Proof.Machine
end

