-- ==== Sys2Proof/Machine/Step.lean ====
section
/-! DEFINITION. One step of the machine: the host's next operation (spec/00_scope.md R11, spec/20_memory.md R79). -/

namespace Sys2Proof.Machine

/-- One step: take the next word the host issues, decode it, and run its operation; a word with no row is refused by name
(spec/30_encoding.md R93). While the host issues nothing, nothing changes (spec/10_state.md R22; assumption log 2). -/
def step (s : State) : Host.Outcome State Fault Refusal :=
  match s.takeWord with
  | none => .next s
  | some (w, t) =>
    match decode w with
    | .ok i => exec i t
    | .error e => .next (t.refuseWord e)

/-- `s` with the table row's word `w` placed as the next word the host issues (assumption log 1). -/
def State.withFetchWord (s : State) (nbits w : Nat) : State := s.pushTableWord nbits w

end Sys2Proof.Machine
end

