-- ==== Sys2Proof/Safety.lean ====
section
/-! DEFINITION. What counts as a safe run, the invariants of the state, and the classes of operations the claims speak of. -/

namespace Sys2Proof

/-- The READ operations (spec/00_scope.md R3). -/
def Instr.isRead : Instr → Bool
  | .rdNr10 | .rdNr11 | .rdNr12 | .rdNr13 | .rdNr14 | .rdNr21 | .rdNr22 | .rdNr23 | .rdNr24 | .rdNr30 | .rdNr31 | .rdNr32
  | .rdNr33 | .rdNr34 | .rdNr41 | .rdNr42 | .rdNr43 | .rdNr44 | .rdNr50 | .rdNr51 | .rdNr52 | .rdWave _ | .rdUnusedFf15
  | .rdUnusedFf1f | .rdUnusedFf27 | .rdUnusedFf28To2f _ => true
  | _ => false

/-- The power-gated WRITE operations: every WRITE but those of NR52 and wave RAM (spec/40_register_bank.md R113). -/
def Instr.isGatedWrite : Instr → Bool
  | .wrNr10 _ | .wrNr11 _ | .wrNr12 _ | .wrNr13 _ | .wrNr14 _ | .wrNr21 _ | .wrNr22 _ | .wrNr23 _ | .wrNr24 _ | .wrNr30 _
  | .wrNr31 _ | .wrNr32 _ | .wrNr33 _ | .wrNr34 _ | .wrNr41 _ | .wrNr42 _ | .wrNr43 _ | .wrNr44 _ | .wrNr50 _ | .wrNr51 _
  | .wrUnusedFf15 _ | .wrUnusedFf1f _ | .wrUnusedFf27 _ | .wrUnusedFf28To2f _ _ => true
  | _ => false

/-- The WRITE to `NRc1`, the length register of channel `c`. -/
def lengthWrite : Machine.Ch → Byte → Instr
  | .c1, v => .wrNr11 v
  | .c2, v => .wrNr21 v
  | .c3, v => .wrNr31 v
  | .c4, v => .wrNr41 v

/-- The WRITE to `NRc4`, the trigger register of channel `c`. -/
def triggerWrite : Machine.Ch → Byte → Instr
  | .c1, v => .wrNr14 v
  | .c2, v => .wrNr24 v
  | .c3, v => .wrNr34 v
  | .c4, v => .wrNr44 v

namespace Machine

/-- A run is safe so far when no operation in it was refused (spec/60_exceptions.md R312). -/
def State.Safe (s : State) : Prop := s.refusals = []

/-- The memory keeps its canonical form. -/
def State.MemOk (s : State) : Prop := Memory.wf s.mem = true

/-- `CH[c].len <= MAXLEN(c)` (spec/10_state.md R63). -/
def State.LengthsOk (s : State) : Prop := ∀ c, (s.ch c).len ≤ maxLen c

/-- `ncnt` is at most 917504 (spec/10_state.md R25, spec/45_noise_channel.md R278). -/
def State.NoiseOk (s : State) : Prop := s.ch4.ncnt ≤ 917504

/-- Between two operations every edge flag is 0 (spec/10_state.md R62). -/
def State.EdgesClear (s : State) : Prop := ∀ c, (s.ch c).edge = false

/-- While powered off every channel record, NR50 and NR51 are zero (spec/10_state.md R63). -/
def State.OffIsZero (s : State) : Prop :=
  s.power = false → (∀ c, s.ch c = Channel.zero) ∧ s.nr50 = 0 ∧ s.nr51 = 0

/-- The ranges of the resampler (spec/10_state.md R60); the accumulator is bounded by what `RS.count` cycles can add. -/
def State.ResamplerOk (s : State) : Prop :=
  1 ≤ s.rs.countdown ∧ s.rs.count + s.rs.countdown ≤ s.params.q + 1 ∧ s.rs.rem < s.params.sampleHz ∧
    s.rs.acc ≤ s.rs.count * 60 * s.params.mixScale

/-- Register slot 0 of channels 2 and 4 is 0, and the fields a kind does not use are 0 (spec/10_state.md R25, R26); a pulse channel's
index is a 3-bit value. -/
def State.LayoutOk (s : State) : Prop :=
  s.ch2.reg0 = 0 ∧ s.ch4.reg0 = 0 ∧
  (s.ch1.lfsr = 0 ∧ s.ch1.ncnt = 0 ∧ s.ch1.idx.toNat < 8) ∧
  (s.ch2.swCnt = 0 ∧ s.ch2.shadow = 0 ∧ s.ch2.lfsr = 0 ∧ s.ch2.ncnt = 0 ∧ s.ch2.idx.toNat < 8) ∧
  (s.ch3.envVol = 0 ∧ s.ch3.envPace = 0 ∧ s.ch3.envDir = false ∧ s.ch3.envCnt = 0 ∧ s.ch3.swCnt = 0 ∧ s.ch3.shadow = 0 ∧
    s.ch3.lfsr = 0 ∧ s.ch3.ncnt = 0) ∧
  (s.ch4.swCnt = 0 ∧ s.ch4.shadow = 0 ∧ s.ch4.idx = 0 ∧ s.ch4.pcnt = 0)

end Machine

end Sys2Proof
end

