-- ==== Sys2Proof/Certificates/Slice0/Obligations.lean ====
section
/-! DEFINITION. The statements for the provers, from the numbered rules of spec/. The helpers under `Sys2Proof.Claims` say in
numbers what the rules say, apart from the model's own functions. -/

open Sys2Proof Sys2Proof.Machine

namespace Sys2Proof.Claims

/-! ### Helpers -/

/-- A state with a READ's byte answered, and nothing else changed. -/
def answered (s : State) (b : Byte) : State := { s with result := .readByte b, reads := s.reads ++ [b] }

/-- A state with a WRITE's free byte drawn, and nothing else changed (spec/40_register_bank.md R116). -/
def wrote (s : State) : State := { s with result := .writeByte (Config.freeByte s.draws), draws := s.draws + 1 }

/-- A state with a refusal recorded, and nothing else changed (spec/60_exceptions.md R312). -/
def refusedWith (s : State) (r : RefusalReason) : State := { s with refusals := s.refusals ++ [r], result := .refused r }

/-- The divider bit an ADVANCE tests (spec/42_frame_sequencer.md R201). -/
def testedBit (s : State) (dsm : Bool) : Nat := if dsm then s.params.fsBitDouble.val else s.params.fsBitNormal.val

/-- The divider bit an ADVANCE tests falls (spec/42_frame_sequencer.md R201). -/
abbrev edgeSeen (s : State) (dsm : Bool) (div : Byte) : Prop :=
  s.divSnap.toNat / 2 ^ testedBit s dsm % 2 = 1 ∧ div.toNat / 2 ^ testedBit s dsm % 2 = 0

/-- `NEXTSTEP()` as a number (spec/42_frame_sequencer.md R202). -/
def nextStepNo (s : State) : Nat :=
  if s.params.fsPhase = .pre then s.fsStep.toNat else (s.fsStep.toNat + 1) % 8

/-- The period `{reg[4][2:0], reg[3]}` as a number (spec/10_state.md R29). -/
def periodNo (x : Channel) : Nat := x.reg4.toNat % 8 * 256 + x.reg3.toNat

/-- The trigger bit is pending (spec/41_channel_registers.md R161). -/
abbrev pendingTrigger (x : Channel) : Prop := 128 ≤ x.reg4.toNat

/-- The length enable, as a number's bit (spec/10_state.md R29). -/
abbrev lengthEnabled (x : Channel) : Prop := x.reg4.toNat / 64 % 2 = 1

/-- DAC enable of a volume channel: bits 7:3 of `reg[2]` are not all zero (R29). -/
abbrev volumeDacOn (x : Channel) : Prop := 8 ≤ x.reg2.toNat

/-- DAC enable of channel 3: bit 7 of `reg[0]` (R29). -/
abbrev waveDacOn (x : Channel) : Prop := 128 ≤ x.reg0.toNat

/-- `DAC(c)` (R29). -/
abbrev dacOn (s : State) (c : Ch) : Prop := (c = .c3 ∧ waveDacOn (s.ch c)) ∨ (c ≠ .c3 ∧ volumeDacOn (s.ch c))

/-- One count of a period counter and a cursor (spec/43_pulse_channels.md R226, spec/44_wave_channel.md R253): a pair of `pcnt` and the
number of positions the cursor has moved. -/
def countOnce (period : Nat) (a : Nat × Nat) : Nat × Nat := if a.1 + 1 = 0x800 then (period, a.2 + 1) else (a.1 + 1, a.2)

/-- The length counter an NRx4 write leaves (spec/41_channel_registers.md R160). -/
def lenAfterTrigWrite (max len : Nat) (nextClocks prevEn newEn trig : Prop) [Decidable nextClocks] [Decidable prevEn]
    [Decidable newEn] [Decidable trig] : Nat :=
  if prevEn then (if ¬ trig then len else if len = max then max - 1 else if len = 0 then max else len)
  else if ¬ nextClocks ∧ newEn ∧ 0 < len then (if trig ∧ len = 1 then max else len - 1)
  else if trig ∧ len = 0 then max else len

/-- The channel record an NRx4 write of `v` leaves (R160, R161). -/
def afterTrigWrite (s : State) (max : Nat) (v : Byte) (x : Channel) : Channel :=
  { x with
    len := lenAfterTrigWrite max x.len (nextStepNo s % 2 = 0) (x.reg4.toNat / 64 % 2 = 1) (v.toNat / 64 % 2 = 1) (128 ≤ v.toNat)
    on := if x.reg4.toNat / 64 % 2 = 0 ∧ v.toNat / 64 % 2 = 1 ∧ nextStepNo s % 2 = 1 ∧ x.len = 1 then false else x.on
    reg4 := v }

/-- The envelope fields a trigger latches (spec/43_pulse_channels.md R221). -/
def withLatchedEnvelope (x : Channel) : Channel :=
  { x with
    envVol := BitVec.ofNat 4 (x.reg2.toNat / 16)
    envDir := decide (x.reg2.toNat / 8 % 2 = 1)
    envPace := BitVec.ofNat 3 (x.reg2.toNat % 8)
    envCnt := BitVec.ofNat 3 (x.reg2.toNat % 8) }

/-- An ADVANCE counts the length counter of a channel whose DAC is on (spec/43_pulse_channels.md R222): an FS edge executing an even step, with
the length enabled and the counter above 0. -/
abbrev lengthCounts (s : State) (dsm : Bool) (div : Byte) (x : Channel) : Prop :=
  edgeSeen s dsm div ∧ nextStepNo s % 2 = 0 ∧ lengthEnabled x ∧ 0 < x.len

/-- The same clock takes the counter from 1 to 0 and the channel off (R222). -/
abbrev lengthExpires (s : State) (dsm : Bool) (div : Byte) (x : Channel) : Prop := lengthCounts s dsm div x ∧ x.len = 1

/-- The length counter the clock leaves (R222). -/
def lenAfter (s : State) (dsm : Bool) (div : Byte) (x : Channel) : Nat := if lengthCounts s dsm div x then x.len - 1 else x.len

/-- An ADVANCE clocks the sweep (spec/42_frame_sequencer.md R204): an FS edge executing step 2 or 6. -/
abbrev sweepClocked (s : State) (dsm : Bool) (div : Byte) : Prop := edgeSeen s dsm div ∧ (nextStepNo s = 2 ∨ nextStepNo s = 6)

/-- An ADVANCE clocks the envelopes (R204): an FS edge executing step 7. -/
abbrev envelopeClocked (s : State) (dsm : Bool) (div : Byte) : Prop := edgeSeen s dsm div ∧ nextStepNo s = 7

/-- The envelope step of a playing channel, which does nothing without its clock (spec/43_pulse_channels.md R225, R228). -/
def withEnvelopeStep (clocked : Prop) [Decidable clocked] (x : Channel) : Channel :=
  if clocked ∧ x.envPace ≠ 0 then
    if 2 ≤ x.envCnt.toNat then { x with envCnt := BitVec.ofNat 3 (x.envCnt.toNat - 1) }
    else
      { x with
        envCnt := x.envPace
        envVol := BitVec.ofNat 4 (if x.envDir = true then min (x.envVol.toNat + 1) 15 else x.envVol.toNat - 1) }
  else x

/-- A record with the cursor at `(pcnt, position)`, the position modulo the number of them. -/
def withCursor (positions : Nat) (a : Nat × Nat) (x : Channel) : Channel :=
  { x with pcnt := BitVec.ofNat 11 a.1, idx := BitVec.ofNat 5 (a.2 % positions) }

/-- The sweep pace of NR10 (spec/10_state.md R30). -/
def sweepPaceNo (x : Channel) : Nat := x.reg0.toNat / 16 % 8

/-- The period a sweep computation gives from `p`, before the saturation test (spec/43_pulse_channels.md R227). -/
def sweepTargetNo (x : Channel) (p : Nat) : Nat :=
  if x.reg0.toNat / 8 % 2 = 1 then p - p / 2 ^ (x.reg0.toNat % 8) else p + p / 2 ^ (x.reg0.toNat % 8)

/-- A pulse record after the trigger and the length clock of one tick (spec/43_pulse_channels.md R221, then R222). -/
def triggeredPulse (s : State) (dsm : Bool) (div : Byte) (x : Channel) : Channel :=
  withLatchedEnvelope { x with
    reg4 := BitVec.ofNat 8 (x.reg4.toNat % 128)
    on := decide (¬ lengthExpires s dsm div x)
    len := lenAfter s dsm div x
    pcnt := BitVec.ofNat 11 (periodNo x)
    idx := 0 }

/-- Where channel 3's cursor stands when its first sub-tick counts: at the start after a trigger (spec/44_wave_channel.md R251). -/
def waveStart (x : Channel) : Nat × Nat := if pendingTrigger x then (periodNo x, 0) else (x.pcnt.toNat, x.idx.toNat)

/-- `NOISEPERIOD()` (spec/45_noise_channel.md R271), with `r = 0` giving `2^s`. -/
def noisePeriodNo (x : Channel) : Nat :=
  if x.reg3.toNat % 8 = 0 then 2 ^ (x.reg3.toNat / 16) else 2 ^ (x.reg3.toNat / 16 + 1) * (x.reg3.toNat % 8)

/-- `LFSR_STEP()` on numbers (spec/45_noise_channel.md R274). -/
def lfsrNext (short : Prop) [Decidable short] (x : Nat) : Nat :=
  let fb := (x + x / 2) % 2
  let y := x / 2 + fb * 2 ^ 14
  if short then y - y / 64 % 2 * 64 + fb * 64 else y

/-- The output of a pulse channel whose tick left the record `x` (spec/43_pulse_channels.md R223, R230). -/
def pulseOut (p : Params) (x : Channel) : Nat :=
  let pattern :=
    match x.reg1.toNat / 64 with
    | 0 => p.duty.d0
    | 1 => p.duty.d1
    | 2 => p.duty.d2
    | _ => p.duty.d3
  if x.on then pattern.toNat / 2 ^ (x.idx.toNat % 8) % 2 * x.envVol.toNat else 0

/-- The output of the noise channel whose tick left the record `x` (spec/45_noise_channel.md R276). -/
def noiseOut (x : Channel) : Nat := if x.on then x.lfsr.toNat % 2 * x.envVol.toNat else 0

/-- The output of channel 3 at a cursor position (spec/44_wave_channel.md R254). -/
def waveOutAt (s : State) (pos : Nat) : Nat :=
  let b := (Memory.read s.mem (0xFF30 + pos / 2)).toNat
  let nib := if pos % 2 = 1 then b / 16 else b % 16
  let level := s.ch3.reg2.toNat / 32 % 4
  if level = 0 then 0 else nib / 2 ^ (level - 1)

/-- A channel record with every field of spec/10_state.md R25 at 0. -/
def allZero : Channel :=
  ⟨0, 0, 0, 0, 0, false, 0, 0, 0, false, 0, 0, 0, 0, 0, 0, 0, false⟩

/-- `READ(addr)` (spec/40_register_bank.md R110). -/
def busRead (s : State) (a : Addr) : Byte :=
  if 0xFF30 ≤ a.toNat then Memory.read s.mem a.toNat
  else if a = 0xFF26 then
    BitVec.ofNat 8 ((if s.power then 128 else 0) + 112 + (if s.ch4.on then 8 else 0) + (if s.ch3.on then 4 else 0) +
      (if s.ch2.on then 2 else 0) + (if s.ch1.on then 1 else 0))
  else if a = 0xFF24 then s.nr50
  else if a = 0xFF25 then s.nr51
  else
    match slot a with
    | some (c, i) => (s.ch c).reg i ||| readMask a
    | none => 0xFF

/-- `WRITE(addr, v)` less the byte it returns (spec/40_register_bank.md R111). -/
def busWrite (s : State) (a : Addr) (v : Byte) : State :=
  if 0xFF30 ≤ a.toNat then { s with mem := Memory.write s.mem a.toNat v }
  else if a = 0xFF26 then (if v.toNat < 128 then s.powerOff else s.powerOn)
  else if s.power = false then s
  else if a = 0xFF24 then { s with nr50 := v }
  else if a = 0xFF25 then { s with nr51 := v }
  else
    match slot a with
    | some (c, i) =>
      if i = 4 then s.setCh c (afterTrigWrite s (maxLen c) v (s.ch c))
      else if i = 1 then
        s.setCh c { s.ch c with reg1 := v, len := if c = .c3 then 256 - v.toNat else 64 - v.toNat % 64 }
      else s.setCh c ((s.ch c).setReg i v)
    | none => s

/-- The read-back values after RESET of the registers and the unused addresses (spec/70_reset_and_hazards.md R333). -/
def resetReadBack : List (Instr × Byte) :=
  [(.rdNr10, 0x80), (.rdNr11, 0x3F), (.rdNr12, 0x00), (.rdNr13, 0xFF), (.rdNr14, 0xBF), (.rdUnusedFf15, 0xFF), (.rdNr21, 0x3F),
   (.rdNr22, 0x00), (.rdNr23, 0xFF), (.rdNr24, 0xBF), (.rdNr30, 0x7F), (.rdNr31, 0xFF), (.rdNr32, 0x9F), (.rdNr33, 0xFF),
   (.rdNr34, 0xBF), (.rdUnusedFf1f, 0xFF), (.rdNr41, 0xFF), (.rdNr42, 0x00), (.rdNr43, 0x00), (.rdNr44, 0xBF), (.rdNr50, 0x00),
   (.rdNr51, 0x00), (.rdNr52, 0x70), (.rdUnusedFf27, 0xFF), (.rdUnusedFf28To2f 0, 0xFF), (.rdUnusedFf28To2f 1, 0xFF),
   (.rdUnusedFf28To2f 2, 0xFF), (.rdUnusedFf28To2f 3, 0xFF), (.rdUnusedFf28To2f 4, 0xFF), (.rdUnusedFf28To2f 5, 0xFF),
   (.rdUnusedFf28To2f 6, 0xFF), (.rdUnusedFf28To2f 7, 0xFF)]

/-- A sequence of ADVANCEs, each with its `dsm` and `div`. -/
def runAdvances : List (Bool × Byte) → State → Host.Outcome State Fault Refusal
  | [], s => .next s
  | a :: l, s =>
    match exec (.advance a.1 a.2) s with
    | .next t => runAdvances l t
    | .fault r => .fault r
    | .refused r => .refused r

end Sys2Proof.Claims

open Sys2Proof.Claims

/-! ### Encoding -/

/-- The decoder gives back every operation from its word, with every operand at every value (spec/30_encoding.md R90 to R92). The
word is the spec's own format (its decision D1, R90). -/
def Obligations.DecodeInvertsEncode : Prop := ∀ i : Instr, decode (encode i) = .ok i

/-- A decoded word is its operation's word, but for the data field a READ ignores (R90). The word is the spec's own format (its
decision D1, R90). -/
def Obligations.EncodeInvertsDecode : Prop :=
  ∀ (w : TWord) (i : Instr), decode w = .ok i → encode i = if w.toNat < 2 ^ 24 then w &&& 0x3FFFF00 else w

/-- A decoded word matches its row of the opcode table (R92). The word is the spec's own format (its decision D1, R90). -/
def Obligations.DecodedWordMatchesItsRow : Prop :=
  ∀ (w : TWord) (i : Instr), decode w = .ok i → w &&& i.rowMask = i.rowMatch

/-- A word that matches a row decodes to an operation of that row (R92). The word is the spec's own format (its decision D1, R90).
-/
def Obligations.RowWordDecodesToItsRow : Prop :=
  ∀ (w : TWord) (i : Instr), w &&& i.rowMask = i.rowMatch →
    ∃ j, decode w = .ok j ∧ j.rowMatch = i.rowMatch ∧ j.rowMask = i.rowMask

/-- The words the decoder refuses are those of R93, each with its reason. Refusing them is the spec's decision D34. That a READ or WRITE outside
the window is refused `OUTSIDE_WINDOW` and never `BAD_ENCODING` is the model's reading (assumption log 4, DEDUCED from
spec/95_test_vectors.md B1): spec/60_exceptions.md R312 case 3 names case 2 as well. -/
def Obligations.RefusedWordsAreThoseWithNoRow : Prop :=
  ∀ w : TWord,
    (decode w = .error .outsideWindow ↔
      w.toNat < 2 ^ 25 ∧ (w.toNat / 2 ^ 8 % 2 ^ 16 < 0xFF10 ∨ 0xFF3F < w.toNat / 2 ^ 8 % 2 ^ 16)) ∧
    (decode w = .error .badEncoding ↔
      (2 ^ 25 ≤ w.toNat ∧ w.toNat < 3 * 2 ^ 24 ∧ 2 ^ 9 ≤ w.toNat % 2 ^ 24) ∨ (3 * 2 ^ 24 < w.toNat))

/-- The worked encodings of R99 decode to the operations they stand for, and are their words. R99 is marked "derived: from rule
R90". -/
def Obligations.WorkedEncodings : Prop :=
  ∀ e ∈ ([(0x1FF2680, .wrNr52 0x80), (0x0FF2600, .rdNr52), (0x1FF113F, .wrNr11 0x3F), (0x1FF3012, .wrWave 0 0x12),
      (0x2000010, .advance false 0x10), (0x2000120, .advance true 0x20), (0x3000000, .reset)] : List (TWord × Instr)),
    decode e.1 = .ok e.2 ∧ encode e.2 = e.1

/-! ### The step -/

/-- A step runs the operation the host issues next (spec/00_scope.md R11, spec/20_memory.md R79). The queue is the model's own
(assumption log 1). -/
def Obligations.StepRunsTheDecodedOperation : Prop :=
  ∀ (s : State) (w : TWord) (rest : List TWord) (i : Instr), s.pending = w :: rest → decode w = .ok i →
    step s = exec i { s with pending := rest }

/-- A word with no row is refused after RESET with the decoder's reason, recorded, and nothing else changes (R93, R312). The refusal
is the spec's decision D34; that it is recorded with a next state is assumption log 3. -/
def Obligations.StepRefusesAWordWithNoRow : Prop :=
  ∀ (s : State) (w : TWord) (rest : List TWord), s.init = true → s.pending = w :: rest →
    (decode w = .error .outsideWindow → step s = .next (refusedWith { s with pending := rest } .outsideWindow)) ∧
    (decode w = .error .badEncoding → step s = .next (refusedWith { s with pending := rest } .badEncoding))

/-- Before the first RESET every word but RESET's is refused `BEFORE_RESET`, those with no row too (R312 case 1, R331). The refusal
is the spec's decision D27; that it comes before the decoder's reasons is assumption log 4. -/
def Obligations.WordsBeforeResetAreRefused : Prop :=
  ∀ (s : State) (w : TWord) (rest : List TWord), s.init = false → s.pending = w :: rest → w ≠ 0x3000000 →
    step s = .next (refusedWith { s with pending := rest } .beforeReset)

/-- While the host issues nothing, a step changes nothing (the model's choice, assumption log 2). -/
def Obligations.StepIdlesWhenNothingIsIssued : Prop := ∀ s : State, s.pending = [] → step s = .next s

/-- No step faults or stops: every operation completes or is refused with a next state (R11, R310, R312). A refusal has a next state
and an empty queue idles by the model's choice (assumption log 2, 3). -/
def Obligations.NoStepStops : Prop := (∀ s : State, ∃ t, step s = .next t) ∧ ∀ (i : Instr) (s : State), ∃ t, exec i s = .next t

/-! ### RESET -/

/-- RESET zeroes the state, sets the countdown to `Q` and `INIT` to 1, in any state; it keeps the refusals already recorded; a second
RESET gives the same state (spec/70_reset_and_hazards.md R330). That the parameters, the queue, the sink's plan, the reads, the samples
and the draw count stay and the result becomes none is the model's reading (assumption log 23, DEDUCED). -/
def Obligations.ResetZeroesTheState : Prop :=
  decode 0x3000000 = .ok .reset ∧ ∀ s : State, ∃ t, exec .reset s = .next t ∧ exec .reset t = .next t ∧
    (∀ c, t.ch c = allZero) ∧
    t.nr50 = 0 ∧ t.nr51 = 0 ∧ t.power = false ∧ (∀ a, Memory.read t.mem a = 0) ∧ t.fsStep = 0 ∧ t.fsEdgeStep = 0 ∧
    t.divSnap = 0 ∧ t.rs = { countdown := s.params.deviceHz / s.params.sampleHz, rem := 0, acc := 0, count := 0 } ∧
    t.init = true ∧ t.refusals = s.refusals ∧ t.params = s.params ∧ t.pending = s.pending ∧ t.sinkPlan = s.sinkPlan ∧
    t.reads = s.reads ∧ t.samples = s.samples ∧ t.draws = s.draws ∧ t.result = .none

/-- Every address reads as R333 says after RESET, and after a power-off every address outside wave RAM does. R333 is marked
"derived: from rule R330 and 40_register_bank.md rules R112, R123". -/
def Obligations.ReadBackAfterReset : Prop :=
  (∀ (p : Params), (∀ e ∈ resetReadBack, ∃ t, exec e.1 (State.resetWith p) = .next t ∧ t.result = .readByte e.2) ∧
    ∀ k, ∃ t, exec (.rdWave k) (State.resetWith p) = .next t ∧ t.result = .readByte 0) ∧
  ∀ (s : State) (v : Byte), s.init = true → v.toNat < 128 → ∃ t, exec (.wrNr52 v) s = .next t ∧
    (∀ e ∈ resetReadBack, ∃ u, exec e.1 t = .next u ∧ u.result = .readByte e.2) ∧
    ∀ k, ∃ u, exec (.rdWave k) t = .next u ∧ u.result = .readByte (Memory.read s.mem (0xFF30 + k.toNat))

/-! ### Reads -/

/-- The reads of NR10..NR14 and NR21..NR24: their words, the byte, and no other change (spec/41_channel_registers.md R163 to R179). -/
def Obligations.PulseRegisterReads : Prop :=
  (∀ e ∈ ([
        (0xFF10, .rdNr10), (0xFF11, .rdNr11), (0xFF12, .rdNr12), (0xFF13, .rdNr13), (0xFF14, .rdNr14), (0xFF16, .rdNr21),
        (0xFF17, .rdNr22), (0xFF18, .rdNr23), (0xFF19, .rdNr24)] : List (Addr × Instr)),
      ∀ d, decode (packWord 0 e.1 d) = .ok e.2) ∧
  ∀ s : State, s.init = true →
    exec .rdNr10 s = .next (answered s (s.ch1.reg0 ||| 0x80)) ∧
    exec .rdNr11 s = .next (answered s (s.ch1.reg1 ||| 0x3F)) ∧
    exec .rdNr12 s = .next (answered s s.ch1.reg2) ∧
    exec .rdNr13 s = .next (answered s 0xFF) ∧
    exec .rdNr14 s = .next (answered s (s.ch1.reg4 ||| 0xBF)) ∧
    exec .rdNr21 s = .next (answered s (s.ch2.reg1 ||| 0x3F)) ∧
    exec .rdNr22 s = .next (answered s s.ch2.reg2) ∧
    exec .rdNr23 s = .next (answered s 0xFF) ∧
    exec .rdNr24 s = .next (answered s (s.ch2.reg4 ||| 0xBF))

/-- The reads of NR30..NR34 and NR41..NR44: their words, the byte, and no other change (spec/41_channel_registers.md R181 to R197). -/
def Obligations.WaveAndNoiseRegisterReads : Prop :=
  (∀ e ∈ ([
        (0xFF1A, .rdNr30), (0xFF1B, .rdNr31), (0xFF1C, .rdNr32), (0xFF1D, .rdNr33), (0xFF1E, .rdNr34), (0xFF20, .rdNr41),
        (0xFF21, .rdNr42), (0xFF22, .rdNr43), (0xFF23, .rdNr44)] : List (Addr × Instr)),
      ∀ d, decode (packWord 0 e.1 d) = .ok e.2) ∧
  ∀ s : State, s.init = true →
    exec .rdNr30 s = .next (answered s (s.ch3.reg0 ||| 0x7F)) ∧
    exec .rdNr31 s = .next (answered s 0xFF) ∧
    exec .rdNr32 s = .next (answered s (s.ch3.reg2 ||| 0x9F)) ∧
    exec .rdNr33 s = .next (answered s 0xFF) ∧
    exec .rdNr34 s = .next (answered s (s.ch3.reg4 ||| 0xBF)) ∧
    exec .rdNr41 s = .next (answered s 0xFF) ∧
    exec .rdNr42 s = .next (answered s s.ch4.reg2) ∧
    exec .rdNr43 s = .next (answered s s.ch4.reg3) ∧
    exec .rdNr44 s = .next (answered s (s.ch4.reg4 ||| 0xBF))

/-- The reads of NR50, NR51, NR52 and wave RAM: their words, the byte, and no other change (spec/40_register_bank.md R123, R125, R127,
R128). -/
def Obligations.MixerPowerAndWaveReads : Prop :=
  (∀ e ∈ ([
        (0xFF24, .rdNr50), (0xFF25, .rdNr51), (0xFF26, .rdNr52)] : List (Addr × Instr)),
      ∀ d, decode (packWord 0 e.1 d) = .ok e.2) ∧
  (∀ (k : BitVec 4) (d : Byte), decode (packWord 0 (BitVec.ofNat 16 (0xFF30 + k.toNat)) d) = .ok (.rdWave k)) ∧
  ∀ s : State, s.init = true →
    exec .rdNr50 s = .next (answered s s.nr50) ∧
    exec .rdNr51 s = .next (answered s s.nr51) ∧
    exec .rdNr52 s = .next (answered s (BitVec.ofNat 8
      ((if s.power then 128 else 0) + 112 + (if s.ch4.on then 8 else 0) + (if s.ch3.on then 4 else 0) +
        (if s.ch2.on then 2 else 0) + (if s.ch1.on then 1 else 0)))) ∧
    ∀ k, exec (.rdWave k) s = .next (answered s (Memory.read s.mem (0xFF30 + k.toNat)))

/-- The unused addresses read 0xFF and discard writes, in both power states (spec/40_register_bank.md R118, R119). -/
def Obligations.UnusedAddresses : Prop :=
  (∀ e ∈ ([
        (0xFF15, .rdUnusedFf15), (0xFF1F, .rdUnusedFf1f), (0xFF27, .rdUnusedFf27)] : List (Addr × Instr)),
      ∀ d, decode (packWord 0 e.1 d) = .ok e.2) ∧
  (∀ v, ∀ e ∈ ([
        (0xFF15, .wrUnusedFf15 v), (0xFF1F, .wrUnusedFf1f v), (0xFF27, .wrUnusedFf27 v)] : List (Addr × Instr)),
      decode (packWord 1 e.1 v) = .ok e.2) ∧
  (∀ (a : BitVec 3) (v : Byte), decode (packWord 0 (BitVec.ofNat 16 (0xFF28 + a.toNat)) v) = .ok (.rdUnusedFf28To2f a) ∧
    decode (packWord 1 (BitVec.ofNat 16 (0xFF28 + a.toNat)) v) = .ok (.wrUnusedFf28To2f a v)) ∧
  ∀ (s : State) (a : BitVec 3) (v : Byte), s.init = true →
    exec .rdUnusedFf15 s = .next (answered s 0xFF) ∧
    exec .rdUnusedFf1f s = .next (answered s 0xFF) ∧
    exec .rdUnusedFf27 s = .next (answered s 0xFF) ∧
    exec (.rdUnusedFf28To2f a) s = .next (answered s 0xFF) ∧
    exec (.wrUnusedFf15 v) s = .next (wrote s) ∧
    exec (.wrUnusedFf1f v) s = .next (wrote s) ∧
    exec (.wrUnusedFf27 v) s = .next (wrote s) ∧
    exec (.wrUnusedFf28To2f a v) s = .next (wrote s)

/-- Every READ is R110's one dispatch by address, whatever the power state and whatever the ignored data field. -/
def Obligations.ReadsFollowTheBusDispatch : Prop :=
  ∀ (s : State) (a : Addr) (d : Byte) (i : Instr), s.init = true → decode (packWord 0 a d) = .ok i →
    exec i s = .next (answered s (busRead s a))

/-- A READ changes nothing but the answer, gives the same byte when repeated with another READ between, and but for the power bit that NR52
shows it does not depend on the power state (spec/20_memory.md R76). -/
def Obligations.ReadsChangeNothing : Prop :=
  ∀ (i j : Instr) (s : State) (p : Bool), i.isRead = true → j.isRead = true → s.init = true →
    ∃ b c, exec i s = .next (answered s b) ∧ exec j (answered s b) = .next (answered (answered s b) c) ∧
      exec i (answered (answered s b) c) = .next (answered (answered (answered s b) c) b) ∧
      (i ≠ .rdNr52 → exec i { s with power := p } = .next (answered { s with power := p } b))

/-! ### Writes -/

/-- The writes of NRx0, NRx2 and NRx3 store the byte and change nothing else (spec/41_channel_registers.md R150, R162 to R194). -/
def Obligations.PlainRegisterWrites : Prop :=
  (∀ v, ∀ e ∈ ([
        (0xFF10, .wrNr10 v), (0xFF12, .wrNr12 v), (0xFF13, .wrNr13 v), (0xFF17, .wrNr22 v), (0xFF18, .wrNr23 v),
        (0xFF1A, .wrNr30 v), (0xFF1C, .wrNr32 v), (0xFF1D, .wrNr33 v), (0xFF21, .wrNr42 v), (0xFF22, .wrNr43 v)] : List (Addr × Instr)),
      decode (packWord 1 e.1 v) = .ok e.2) ∧
  ∀ (s : State) (v : Byte), s.init = true → s.power = true →
    exec (.wrNr10 v) s = .next (wrote { s with ch1 := { s.ch1 with reg0 := v } }) ∧
    exec (.wrNr12 v) s = .next (wrote { s with ch1 := { s.ch1 with reg2 := v } }) ∧
    exec (.wrNr13 v) s = .next (wrote { s with ch1 := { s.ch1 with reg3 := v } }) ∧
    exec (.wrNr22 v) s = .next (wrote { s with ch2 := { s.ch2 with reg2 := v } }) ∧
    exec (.wrNr23 v) s = .next (wrote { s with ch2 := { s.ch2 with reg3 := v } }) ∧
    exec (.wrNr30 v) s = .next (wrote { s with ch3 := { s.ch3 with reg0 := v } }) ∧
    exec (.wrNr32 v) s = .next (wrote { s with ch3 := { s.ch3 with reg2 := v } }) ∧
    exec (.wrNr33 v) s = .next (wrote { s with ch3 := { s.ch3 with reg3 := v } }) ∧
    exec (.wrNr42 v) s = .next (wrote { s with ch4 := { s.ch4 with reg2 := v } }) ∧
    exec (.wrNr43 v) s = .next (wrote { s with ch4 := { s.ch4 with reg3 := v } })

/-- The writes of NRx1 store the byte and reload the length counter (R151, R164, R172, R182, R190). -/
def Obligations.LengthRegisterWrites : Prop :=
  (∀ v, ∀ e ∈ ([
        (0xFF11, .wrNr11 v), (0xFF16, .wrNr21 v), (0xFF1B, .wrNr31 v), (0xFF20, .wrNr41 v)] : List (Addr × Instr)),
      decode (packWord 1 e.1 v) = .ok e.2) ∧
  ∀ (s : State) (v : Byte), s.init = true → s.power = true →
    exec (.wrNr11 v) s = .next (wrote { s with ch1 := { s.ch1 with reg1 := v, len := 64 - v.toNat % 64 } }) ∧
    exec (.wrNr21 v) s = .next (wrote { s with ch2 := { s.ch2 with reg1 := v, len := 64 - v.toNat % 64 } }) ∧
    exec (.wrNr31 v) s = .next (wrote { s with ch3 := { s.ch3 with reg1 := v, len := 256 - v.toNat } }) ∧
    exec (.wrNr41 v) s = .next (wrote { s with ch4 := { s.ch4 with reg1 := v, len := 64 - v.toNat % 64 } })

/-- The writes of NRx4 run the four length quirks and store the byte with its trigger bit (R160, R161, R170, R178, R188, R196). That quirk 2
ignores the frame-sequencer phase is the spec's own reading of its source ("derived: from the quoted text", R160). -/
def Obligations.TriggerRegisterWrites : Prop :=
  (∀ v, ∀ e ∈ ([
        (0xFF14, .wrNr14 v), (0xFF19, .wrNr24 v), (0xFF1E, .wrNr34 v), (0xFF23, .wrNr44 v)] : List (Addr × Instr)),
      decode (packWord 1 e.1 v) = .ok e.2) ∧
  ∀ (s : State) (v : Byte), s.init = true → s.power = true →
    exec (.wrNr14 v) s = .next (wrote { s with ch1 := afterTrigWrite s 64 v s.ch1 }) ∧
    exec (.wrNr24 v) s = .next (wrote { s with ch2 := afterTrigWrite s 64 v s.ch2 }) ∧
    exec (.wrNr34 v) s = .next (wrote { s with ch3 := afterTrigWrite s 256 v s.ch3 }) ∧
    exec (.wrNr44 v) s = .next (wrote { s with ch4 := afterTrigWrite s 64 v s.ch4 })

/-- The writes of NR50 and NR51 store the byte while powered on and are discarded while off (spec/40_register_bank.md R124, R126). -/
def Obligations.MixerRegisterWrites : Prop :=
  (∀ v, ∀ e ∈ ([
        (0xFF24, .wrNr50 v), (0xFF25, .wrNr51 v)] : List (Addr × Instr)),
      decode (packWord 1 e.1 v) = .ok e.2) ∧
  ∀ (s : State) (v : Byte), s.init = true →
    exec (.wrNr50 v) s = .next (wrote (if s.power = true then { s with nr50 := v } else s)) ∧
    exec (.wrNr51 v) s = .next (wrote (if s.power = true then { s with nr51 := v } else s))

/-- The write of NR52 (R120, R121, R122): bit 7 = 0 zeroes the channels and the mixer registers, bit 7 = 1 powers on and resets
`FS.step` on the transition (or on every such write, by the parameter); bits 6:0 are ignored. What power-off leaves alone and when
power-on resets the step are the spec's decisions D24 and D23. -/
def Obligations.PowerRegisterWrites : Prop :=
  (∀ v, decode (packWord 1 0xFF26 v) = .ok (.wrNr52 v)) ∧
  ∀ (s : State) (v : Byte), s.init = true →
    (v.toNat < 128 → exec (.wrNr52 v) s = .next (wrote { s with
      ch1 := Channel.zero, ch2 := Channel.zero, ch3 := Channel.zero, ch4 := Channel.zero, nr50 := 0, nr51 := 0, power := false })) ∧
    (128 ≤ v.toNat → exec (.wrNr52 v) s = .next (wrote { s with
      fsStep := if s.power = false ∨ s.params.nr52FsResetOnEverySet = true then 0 else s.fsStep, power := true }))

/-- A write of wave RAM stores the byte at `0xFF30 + k` and leaves every other address and everything else alone, in both power states
(spec/40_register_bank.md R115, R129). -/
def Obligations.WaveRamWrites : Prop :=
  (∀ (k : BitVec 4) (v : Byte), decode (packWord 1 (BitVec.ofNat 16 (0xFF30 + k.toNat)) v) = .ok (.wrWave k v)) ∧
  ∀ (s : State) (k : BitVec 4) (v : Byte), s.init = true →
    ∃ t, exec (.wrWave k v) s = .next t ∧ Memory.read t.mem (0xFF30 + k.toNat) = v ∧
      (∀ a, a ≠ 0xFF30 + k.toNat → Memory.read t.mem a = Memory.read s.mem a) ∧ t = wrote { s with mem := t.mem }

/-- While powered off a gated write has no effect on any state: only its free byte is drawn (R113). The byte is assumption log 6 and
22. -/
def Obligations.PoweredOffWritesAreDiscarded : Prop :=
  ∀ (i : Instr) (s : State), i.isGatedWrite = true → s.init = true → s.power = false → exec i s = .next (wrote s)

/-- Every WRITE is R111's one dispatch by address. -/
def Obligations.WritesFollowTheBusDispatch : Prop :=
  ∀ (s : State) (a : Addr) (v : Byte) (i : Instr), s.init = true → decode (packWord 1 a v) = .ok i →
    exec i s = .next (wrote (busWrite s a v))

/-! ### ADVANCE: the frame sequencer and the shared steps -/

/-- An ADVANCE completes, snapshots the divider, and counts the frame sequencer exactly when the tested bit falls (R201, R202, R203);
it consumes every edge flag (R205, spec/10_state.md R62) and leaves alone what is not its own, and while the sink issues nothing the
refusals recorded so far (spec/60_exceptions.md R312). The tested bits, the phase and the speed switch are the spec's decisions D8, D7 and
D33; the sink's plan is the model's own input (assumption log 5). -/
def Obligations.AdvanceClocksTheFrameSequencer : Prop :=
  ∀ (s : State) (dsm : Bool) (div : Byte), s.init = true →
    ∃ t, exec (.advance dsm div) s = .next t ∧ t.divSnap = div ∧
      (edgeSeen s dsm div → t.fsStep.toNat = (s.fsStep.toNat + 1) % 8 ∧ t.fsEdgeStep.toNat = nextStepNo s) ∧
      (¬ edgeSeen s dsm div → t.fsStep = s.fsStep ∧ t.fsEdgeStep = s.fsEdgeStep) ∧ t.EdgesClear ∧
      t.nr50 = s.nr50 ∧ t.nr51 = s.nr51 ∧ t.power = s.power ∧ t.mem = s.mem ∧ t.init = s.init ∧ t.params = s.params ∧
      t.pending = s.pending ∧ t.reads = s.reads ∧ t.draws = s.draws ∧
      (s.sinkPlan = [] → t.refusals = s.refusals ∧ t.sinkPlan = [])

/-- What an ADVANCE leaves alone in the channels (spec/43_pulse_channels.md R220 to R232, spec/44_wave_channel.md R250 to R253,
spec/45_noise_channel.md R270 to R275): the register bytes but for the trigger bit of a channel whose DAC is on and for the period bits
of a sweeping channel 1, the sweep fields of channels 2 to 4, the envelope fields of channel 3, the noise fields of channels 1 to 3, the
cursor of channel 4, and the latched pace and direction where no trigger is acted on. The layout is the spec's decisions D3 and D5. -/
def Obligations.AdvanceChannelFrame : Prop :=
  ∀ (s : State) (dsm : Bool) (div : Byte), s.init = true →
    ∃ t, exec (.advance dsm div) s = .next t ∧ ∀ c,
      (t.ch c).reg0 = (s.ch c).reg0 ∧ (t.ch c).reg1 = (s.ch c).reg1 ∧ (t.ch c).reg2 = (s.ch c).reg2 ∧
      (c ≠ .c1 ∨ s.ch1.reg0.toNat / 16 % 8 = 0 →
        (t.ch c).reg3 = (s.ch c).reg3 ∧ (t.ch c).reg4.toNat % 8 = (s.ch c).reg4.toNat % 8) ∧
      (t.ch c).reg4.toNat / 8 = (if dacOn s c then (s.ch c).reg4.toNat % 128 else (s.ch c).reg4.toNat) / 8 ∧
      (c ≠ .c1 → (t.ch c).swCnt = (s.ch c).swCnt ∧ (t.ch c).shadow = (s.ch c).shadow) ∧
      (c = .c3 → (t.ch c).envVol = (s.ch c).envVol ∧ (t.ch c).envCnt = (s.ch c).envCnt) ∧
      (c = .c3 ∨ ¬ pendingTrigger (s.ch c) ∨ ¬ dacOn s c →
        (t.ch c).envPace = (s.ch c).envPace ∧ (t.ch c).envDir = (s.ch c).envDir) ∧
      (c ≠ .c4 → (t.ch c).lfsr = (s.ch c).lfsr ∧ (t.ch c).ncnt = (s.ch c).ncnt) ∧
      (c = .c4 → (t.ch c).idx = (s.ch c).idx ∧ (t.ch c).pcnt = (s.ch c).pcnt)

/-- A tick with the DAC disabled clears the on flag and changes nothing else of its channel, a pending trigger included
(spec/43_pulse_channels.md R220, spec/41_channel_registers.md R161). The spec's decisions D9 and D35 are in it. -/
def Obligations.DacOffStopsTheChannel : Prop :=
  ∀ (s : State) (dsm : Bool) (div : Byte), s.init = true →
    ∃ t, exec (.advance dsm div) s = .next t ∧
      ∀ c, ¬ dacOn s c → t.ch c = { s.ch c with on := false, edge := false }

/-- A channel that is off and has no pending trigger advances nothing but, on a length clock, its length counter (R222, R223), and it outputs
0: while all four are so, an ADVANCE that emits nothing adds nothing to the accumulator. That a DAC-off channel loses the length clock is
the spec's decision D9 (R220), and that channel 3 counts once its D18. -/
def Obligations.OffChannelHoldsItsState : Prop :=
  ∀ (s : State) (dsm : Bool) (div : Byte), s.init = true →
    ∃ t, exec (.advance dsm div) s = .next t ∧
      (∀ c, (s.ch c).on = false → ¬ pendingTrigger (s.ch c) → t.ch c = { s.ch c with edge := false, len := (t.ch c).len } ∧
        (s.EdgesClear → (t.ch c).len = if dacOn s c then lenAfter s dsm div (s.ch c) else (s.ch c).len)) ∧
      ((∀ c, (s.ch c).on = false ∧ ¬ pendingTrigger (s.ch c)) → 2 ≤ s.rs.countdown → t.rs.acc = s.rs.acc)

/-- The length clock (R222): an FS edge whose executed step is even counts an enabled counter above 0 down once, and reaching 0 clears
the on flag; nothing else in an ADVANCE changes the counter. A channel that is on or has a trigger pending is on afterwards unless its
counter expires (channel 1 with a sweep pace aside, which the sweep can turn off). That channel 3 counts once though it ticks twice is
the spec's decision D18 (spec/44_wave_channel.md R252), and that a channel whose DAC is off loses the clock its D9 (R220). -/
def Obligations.LengthClock : Prop :=
  ∀ (s : State) (dsm : Bool) (div : Byte), s.init = true → s.EdgesClear →
    ∃ t, exec (.advance dsm div) s = .next t ∧ ∀ c,
      (if edgeSeen s dsm div ∧ nextStepNo s % 2 = 0 ∧ dacOn s c ∧ lengthEnabled (s.ch c) ∧ 0 < (s.ch c).len
       then (t.ch c).len = (s.ch c).len - 1 ∧ ((s.ch c).len = 1 → (t.ch c).on = false)
       else (t.ch c).len = (s.ch c).len) ∧
      ((s.ch c).on = true ∨ pendingTrigger (s.ch c) → c ≠ .c1 ∨ sweepPaceNo s.ch1 = 0 → dacOn s c →
        ¬ lengthExpires s dsm div (s.ch c) → (t.ch c).on = true)

/-! ### ADVANCE: the pulse channels -/

/-- The pulse trigger tick of any ADVANCE (R221): the bit is cleared, the channel is on, the cursor is reset and the envelope fields are latched;
then, in the order of spec/60_exceptions.md R313, the length clock, which may end the tick, for channel 1 the one sweep evaluation of R224
with the countdown at 0 and the shadow at the register period, which may end it too, the envelope clock, and one count of the period
counter, whose reload is the period the sweep left (R226). Rests on the spec's decisions D12, D14 and D15, of which D15 is unverified
(assumption log 12). -/
def Obligations.PulseTriggerTick : Prop :=
  ∀ (s : State) (dsm : Bool) (div : Byte), s.init = true → s.EdgesClear →
    ∃ t, exec (.advance dsm div) s = .next t ∧
      (volumeDacOn s.ch2 → pendingTrigger s.ch2 →
        let x := triggeredPulse s dsm div s.ch2
        let p := periodNo s.ch2
        t.ch2 = if lengthExpires s dsm div s.ch2 then x
          else withCursor 8 (countOnce p (p, 0)) (withEnvelopeStep (envelopeClocked s dsm div) x)) ∧
      (volumeDacOn s.ch1 → pendingTrigger s.ch1 →
        let p := periodNo s.ch1
        let q := sweepTargetNo s.ch1 p
        let x := { triggeredPulse s dsm div s.ch1 with swCnt := 0, shadow := BitVec.ofNat 11 p }
        t.ch1 = if lengthExpires s dsm div s.ch1 then x
          else if sweepPaceNo s.ch1 = 0 then
            withCursor 8 (countOnce p (p, 0)) (withEnvelopeStep (envelopeClocked s dsm div) x)
          else if 0x7FF ≤ q then { x with swCnt := BitVec.ofNat 3 (sweepPaceNo s.ch1), on := false }
          else withCursor 8 (countOnce q (p, 0)) (withEnvelopeStep (envelopeClocked s dsm div) { x with
            swCnt := BitVec.ofNat 3 (sweepPaceNo s.ch1)
            shadow := BitVec.ofNat 11 q
            reg3 := BitVec.ofNat 8 (q % 256)
            reg4 := BitVec.ofNat 8 (s.ch1.reg4.toNat % 128 / 8 * 8 + q / 256) }))

/-- The period counter and the duty index of a playing pulse channel in an ADVANCE with no trigger (R226): they count whether or not there is an
FS edge, with the period the tick leaves (the sweep comes first) as the reload, unless the tick turns the channel off (R223, R224). With
no FS edge nothing else of the channel changes. Rests on the spec's decision D12. -/
def Obligations.PulsePeriodCounter : Prop :=
  ∀ (s : State) (dsm : Bool) (div : Byte), s.init = true → s.EdgesClear →
    ∃ t, exec (.advance dsm div) s = .next t ∧
      ∀ c, c = .c1 ∨ c = .c2 → volumeDacOn (s.ch c) → (s.ch c).on = true → ¬ pendingTrigger (s.ch c) →
        (¬ edgeSeen s dsm div → t.ch c =
          if (s.ch c).pcnt = 0x7FF then
            { s.ch c with pcnt := BitVec.ofNat 11 (periodNo (s.ch c)), idx := BitVec.ofNat 5 (((s.ch c).idx.toNat + 1) % 8) }
          else { s.ch c with pcnt := BitVec.ofNat 11 ((s.ch c).pcnt.toNat + 1) }) ∧
        ((t.ch c).on = true →
          if (s.ch c).pcnt = 0x7FF then
            (t.ch c).pcnt.toNat = periodNo (t.ch c) ∧ (t.ch c).idx.toNat = ((s.ch c).idx.toNat + 1) % 8
          else (t.ch c).pcnt.toNat = (s.ch c).pcnt.toNat + 1 ∧ (t.ch c).idx = (s.ch c).idx) ∧
        ((t.ch c).on = false → (t.ch c).pcnt = (s.ch c).pcnt ∧ (t.ch c).idx = (s.ch c).idx)

/-- The sweep of channel 1 (R204, R224, R227). With a nonzero pace it is evaluated on a sweep clock (an FS edge executing step 2 or 6) and at a
trigger tick, once, whatever the FS edge, unless the length clock of the tick turns the channel off: with `p` the shadow period (the
register period at a trigger) the computation runs when the countdown is at most 1 (at once at a trigger), and on saturation the channel
goes off with nothing written back. In every other ADVANCE channel 1 does not sweep: with no trigger the countdown, the shadow and the
period stay and the sweep turns nothing off, and a trigger loads the shadow and clears the countdown only. Rests on the spec's decisions
D15 and D16; D15 is unverified (assumption log 12). -/
def Obligations.SweepEvaluation : Prop :=
  ∀ (s : State) (dsm : Bool) (div : Byte), s.init = true → s.EdgesClear → volumeDacOn s.ch1 →
    let pace := sweepPaceNo s.ch1
    let target := sweepTargetNo s.ch1
    ∃ t, exec (.advance dsm div) s = .next t ∧
      (¬ pendingTrigger s.ch1 → s.ch1.on = true → pace ≠ 0 → sweepClocked s dsm div → ¬ lengthExpires s dsm div s.ch1 →
        if 2 ≤ s.ch1.swCnt.toNat then
          t.ch1.on = true ∧ t.ch1.swCnt.toNat = s.ch1.swCnt.toNat - 1 ∧ t.ch1.shadow = s.ch1.shadow ∧
            t.ch1.reg3 = s.ch1.reg3 ∧ t.ch1.reg4 = s.ch1.reg4
        else if 0x7FF ≤ target s.ch1.shadow.toNat then
          t.ch1.on = false ∧ t.ch1.swCnt.toNat = pace ∧ t.ch1.shadow = s.ch1.shadow ∧ t.ch1.reg3 = s.ch1.reg3 ∧
            t.ch1.reg4 = s.ch1.reg4
        else
          t.ch1.on = true ∧ t.ch1.swCnt.toNat = pace ∧ t.ch1.shadow.toNat = target s.ch1.shadow.toNat ∧
            periodNo t.ch1 = target s.ch1.shadow.toNat ∧ t.ch1.reg4.toNat / 8 = s.ch1.reg4.toNat / 8) ∧
      (pendingTrigger s.ch1 → pace ≠ 0 → ¬ lengthExpires s dsm div s.ch1 →
        if 0x7FF ≤ target (periodNo s.ch1) then
          t.ch1.on = false ∧ t.ch1.swCnt.toNat = pace ∧ t.ch1.shadow.toNat = periodNo s.ch1 ∧ t.ch1.reg3 = s.ch1.reg3 ∧
            t.ch1.reg4.toNat = s.ch1.reg4.toNat % 128
        else
          t.ch1.on = true ∧ t.ch1.swCnt.toNat = pace ∧ t.ch1.shadow.toNat = target (periodNo s.ch1) ∧
            periodNo t.ch1 = target (periodNo s.ch1) ∧ t.ch1.reg4.toNat / 8 = s.ch1.reg4.toNat % 128 / 8) ∧
      (¬ pendingTrigger s.ch1 → pace = 0 ∨ ¬ sweepClocked s dsm div ∨ lengthExpires s dsm div s.ch1 →
        t.ch1.swCnt = s.ch1.swCnt ∧ t.ch1.shadow = s.ch1.shadow ∧ t.ch1.reg3 = s.ch1.reg3 ∧ t.ch1.reg4 = s.ch1.reg4 ∧
          t.ch1.on = (s.ch1.on && !decide (lengthExpires s dsm div s.ch1))) ∧
      (pendingTrigger s.ch1 → pace = 0 ∨ lengthExpires s dsm div s.ch1 →
        t.ch1.swCnt = 0 ∧ t.ch1.shadow.toNat = periodNo s.ch1 ∧ t.ch1.reg3 = s.ch1.reg3 ∧
          t.ch1.reg4.toNat = s.ch1.reg4.toNat % 128 ∧ t.ch1.on = !decide (lengthExpires s dsm div s.ch1))

/-- The envelope clock of channels 1, 2 and 4 (R225, R228): in an ADVANCE with no trigger the volume and the countdown of a playing
channel change only on an FS edge executing step 7, and there as R228 says. Rests on the spec's decision D14. -/
def Obligations.EnvelopeClock : Prop :=
  ∀ (s : State) (dsm : Bool) (div : Byte), s.init = true → s.EdgesClear →
    ∃ t, exec (.advance dsm div) s = .next t ∧
      ∀ c, c ≠ .c3 → volumeDacOn (s.ch c) → (s.ch c).on = true → ¬ pendingTrigger (s.ch c) →
        (t.ch c).envPace = (s.ch c).envPace ∧ (t.ch c).envDir = (s.ch c).envDir ∧
        if edgeSeen s dsm div ∧ nextStepNo s = 7 ∧ (s.ch c).envPace ≠ 0 then
          if 2 ≤ (s.ch c).envCnt.toNat then
            (t.ch c).envCnt.toNat = (s.ch c).envCnt.toNat - 1 ∧ (t.ch c).envVol = (s.ch c).envVol
          else (t.ch c).envCnt = (s.ch c).envPace ∧
            (t.ch c).envVol.toNat =
              if (s.ch c).envDir = true then min ((s.ch c).envVol.toNat + 1) 15 else (s.ch c).envVol.toNat - 1
        else (t.ch c).envCnt = (s.ch c).envCnt ∧ (t.ch c).envVol = (s.ch c).envVol

/-! ### ADVANCE: the wave channel -/

/-- Channel 3 with its DAC on in any ADVANCE, the whole record (R250 to R253): a pending trigger is cleared, turns the channel on and resets the
cursor, then the length clock counts once and may turn it off, and while it is on the period counter and the 32-step cursor count twice.
Rests on the spec's decisions D12 and D18. -/
def Obligations.WaveTriggerAndCursor : Prop :=
  ∀ (s : State) (dsm : Bool) (div : Byte), s.init = true → s.EdgesClear → waveDacOn s.ch3 →
    ∃ t, exec (.advance dsm div) s = .next t ∧
      let plays := (pendingTrigger s.ch3 ∨ s.ch3.on = true) ∧ ¬ lengthExpires s dsm div s.ch3
      let p := periodNo s.ch3
      t.ch3 = withCursor 32 (if plays then countOnce p (countOnce p (waveStart s.ch3)) else waveStart s.ch3) { s.ch3 with
        reg4 := BitVec.ofNat 8 (s.ch3.reg4.toNat % 128)
        on := decide plays
        len := lenAfter s dsm div s.ch3 }

/-- What a playing channel 3 adds to the accumulator when the other DACs are off and no sample is due (R252, R254, R291, R292): the
average, rounded down, of the two nibbles its two sub-ticks select, at the output level, low nibble on even positions. Rests on the
spec's decisions D3, D17 and D18. -/
def Obligations.WaveOutputAverage : Prop :=
  ∀ (s : State) (dsm : Bool) (div : Byte), s.init = true → s.EdgesClear → ¬ edgeSeen s dsm div → waveDacOn s.ch3 →
    s.ch3.on = true → ¬ pendingTrigger s.ch3 → ¬ volumeDacOn s.ch1 → ¬ volumeDacOn s.ch2 → ¬ volumeDacOn s.ch4 →
    2 ≤ s.rs.countdown →
    let a := countOnce (periodNo s.ch3) (s.ch3.pcnt.toNat, s.ch3.idx.toNat)
    let b := countOnce (periodNo s.ch3) a
    ∃ t, exec (.advance dsm div) s = .next t ∧
      t.rs.acc = s.rs.acc + s.params.mixScale * ((waveOutAt s (a.2 % 32) + waveOutAt s (b.2 % 32)) / 2)

/-! ### ADVANCE: the noise channel -/

/-- The noise trigger tick of any ADVANCE (spec/45_noise_channel.md R272): the bit is cleared, the channel is on, the envelope fields are latched,
the LFSR is all ones and the countdown is twice the period of R271; then, in the order of spec/60_exceptions.md R313, the length clock,
which may end the tick, the envelope clock (R273) and one count of the countdown (R275). Rests on the spec's decisions D14 and D19. -/
def Obligations.NoiseTriggerTick : Prop :=
  ∀ (s : State) (dsm : Bool) (div : Byte), s.init = true → s.EdgesClear → volumeDacOn s.ch4 → pendingTrigger s.ch4 →
    ∃ t, exec (.advance dsm div) s = .next t ∧
      let x := withLatchedEnvelope { s.ch4 with
        reg4 := BitVec.ofNat 8 (s.ch4.reg4.toNat % 128)
        on := decide (¬ lengthExpires s dsm div s.ch4)
        len := lenAfter s dsm div s.ch4
        lfsr := 0x7FFF
        ncnt := 2 * noisePeriodNo s.ch4 }
      t.ch4 = if lengthExpires s dsm div s.ch4 then x
        else { withEnvelopeStep (envelopeClocked s dsm div) x with ncnt := 2 * noisePeriodNo s.ch4 - 1 }

/-- A playing channel 4 in any ADVANCE with no trigger, the whole record: the length clock, which may end the tick (R222), the envelope clock
(R273), then the noise countdown and the LFSR (R274, R275). Rests on the spec's decisions D14 and D19. -/
def Obligations.NoiseCountdownAndLfsr : Prop :=
  ∀ (s : State) (dsm : Bool) (div : Byte), s.init = true → s.EdgesClear → volumeDacOn s.ch4 → s.ch4.on = true →
    ¬ pendingTrigger s.ch4 →
    ∃ t, exec (.advance dsm div) s = .next t ∧
      let x := { s.ch4 with len := lenAfter s dsm div s.ch4 }
      let y := withEnvelopeStep (envelopeClocked s dsm div) x
      t.ch4 = if lengthExpires s dsm div s.ch4 then { x with on := false }
        else if s.ch4.ncnt = 0 then
          { y with
            lfsr := BitVec.ofNat 15 (lfsrNext (s.ch4.reg3.toNat / 8 % 2 = 1) s.ch4.lfsr.toNat)
            ncnt := 2 * noisePeriodNo s.ch4 }
        else { y with ncnt := s.ch4.ncnt - 1 }

/-! ### ADVANCE: the mixer and the resampler -/

/-- Every ADVANCE adds the scaled sum of the four outputs to the accumulator, and when the countdown ends it emits the average as one sample
with two equal values and reloads (spec/46_mixer_resampler.md R290 to R295, R299). The pulse and noise outputs are those of R230 and
R276 at the records the ticks left, 0 for a channel that is off (R220, R223); channel 3's is the average of the outputs of R254 at the
cursor positions of its two sub-ticks, 0 with its DAC off or if the ADVANCE leaves it off (R220, R223, R250, R252). The scale, the
rounding of channel 3's average, and the floor and the reload of the sample are the spec's decisions D20, D17 and D21; two sub-ticks an
ADVANCE is its source's approximation (R345). -/
def Obligations.AdvanceMixesAndEmits : Prop :=
  ∀ (s : State) (dsm : Bool) (div : Byte), s.init = true → 1 ≤ s.rs.countdown →
    ∃ t, exec (.advance dsm div) s = .next t ∧
      let a := countOnce (periodNo s.ch3) (waveStart s.ch3)
      let b := countOnce (periodNo s.ch3) a
      let o3 := if waveDacOn s.ch3 ∧ t.ch3.on = true then (waveOutAt s (a.2 % 32) + waveOutAt s (b.2 % 32)) / 2 else 0
      let acc := s.rs.acc + s.params.mixScale * (pulseOut s.params t.ch1 + pulseOut s.params t.ch2 + o3 + noiseOut t.ch4)
      if s.rs.countdown = 1 then
        let x := acc / (s.rs.count + 1)
        let rem := s.rs.rem + s.params.deviceHz % s.params.sampleHz
        let q := s.params.deviceHz / s.params.sampleHz
        t.result = .advanced (some (x, x)) ∧ t.samples = s.samples ++ [(x, x)] ∧
          t.rs = if s.params.sampleHz ≤ rem then { countdown := q + 1, rem := rem - s.params.sampleHz, acc := 0, count := 0 }
                 else { countdown := q, rem := rem, acc := 0, count := 0 }
      else t.result = .advanced none ∧ t.samples = s.samples ∧
        t.rs = { countdown := s.rs.countdown - 1, rem := s.rs.rem, acc := acc, count := s.rs.count + 1 }

/-- An emitted sample lies in `0..60*MIX_SCALE` in every state whose resampler is in range (R299). The range of `MIX_SCALE` is the
spec's decision D20. -/
def Obligations.EmittedSampleIsInRange : Prop :=
  ∀ (s t : State) (dsm : Bool) (div : Byte) (l r : Nat), s.init = true → s.ResamplerOk →
    exec (.advance dsm div) s = .next t → t.result = .advanced (some (l, r)) → l = r ∧ l ≤ 60 * s.params.mixScale

/-- What the sink issues while it is called is refused `SINK_REENTRY`, once for each word, and changes nothing else (R295, R312 case
4). The sink's plan is the model's own input (assumption log 5). The refusal is the spec's decision D30. -/
def Obligations.SinkReentryIsRefused : Prop :=
  ∀ (s t : State) (dsm : Bool) (div : Byte) (plan : List TWord), s.init = true → s.sinkPlan = [] →
    exec (.advance dsm div) s = .next t →
    exec (.advance dsm div) { s with sinkPlan := plan } = .next (
      if t.samples = s.samples then { t with sinkPlan := plan }
      else { t with refusals := t.refusals ++ List.replicate plan.length .sinkReentry, sinkPlan := [] })

/-- The long-run rate (R297): from a freshly reset resampler, whatever the channels do and whatever the divider values, the k-th
sample is emitted by ADVANCE number `T(k) = k*Q + floor((k-1)*RM / SAMPLE_HZ)`. Rests on the spec's decision D21; R297 is marked
"derived: from rules R293, R294". -/
def Obligations.SampleCadence : Prop :=
  ∀ (s : State) (ops : List (Bool × Byte)) (k : Nat), s.init = true → s.params.wellFormed = true → 1 ≤ k →
    s.rs = { countdown := s.params.deviceHz / s.params.sampleHz, rem := 0, acc := 0, count := 0 } →
    let due := k * (s.params.deviceHz / s.params.sampleHz) +
      (k - 1) * (s.params.deviceHz % s.params.sampleHz) / s.params.sampleHz
    ∃ t, runAdvances ops s = .next t ∧
      (ops.length = due → t.samples.length = s.samples.length + k) ∧
      (ops.length + 1 = due → t.samples.length = s.samples.length + (k - 1))

/-- NR50 and NR51 change nothing an ADVANCE does (R296): two states that differ only in them stay so, and emit the same samples,
both values of which are equal. Rests on the spec's decision D22. -/
def Obligations.PanningAndMasterVolumeDoNothing : Prop :=
  ∀ (s t : State) (dsm : Bool) (div a b : Byte), exec (.advance dsm div) s = .next t →
    exec (.advance dsm div) { s with nr50 := a, nr51 := b } = .next { t with nr50 := a, nr51 := b } ∧
    ∀ l r, t.result = .advanced (some (l, r)) → s.init = true → l = r

/-- No channel reads another's state (spec/42_frame_sequencer.md R205): what an ADVANCE does to a channel depends on that channel,
the frame sequencer, wave RAM and the parameters only. R205 says so to justify its decision D44. -/
def Obligations.ChannelsDoNotReadEachOther : Prop :=
  ∀ (s s' t t' : State) (dsm : Bool) (div : Byte) (c : Ch), s.ch c = s'.ch c → s.params = s'.params → s.divSnap = s'.divSnap →
    s.fsStep = s'.fsStep → s.fsEdgeStep = s'.fsEdgeStep → s.mem = s'.mem → s.init = s'.init →
    exec (.advance dsm div) s = .next t → exec (.advance dsm div) s' = .next t' → t.ch c = t'.ch c

/-! ### Whole-machine rules -/

/-- An on flag becomes true only by a trigger acted on at a tick (spec/10_state.md R27). -/
def Obligations.OnFlagRisesOnlyByATriggerTick : Prop :=
  ∀ (i : Instr) (s t : State) (c : Ch), exec i s = .next t → (s.ch c).on = false → (t.ch c).on = true →
    (∃ dsm div, i = .advance dsm div) ∧ pendingTrigger (s.ch c) ∧ dacOn s c

/-- An on flag becomes false only by length expiry at a tick or at an NRx4 write, sweep overflow, a tick with the DAC disabled,
power-off, or RESET (R27, R330). That RESET clears it too is R330's. -/
def Obligations.OnFlagFallsOnlyByTheListedEvents : Prop :=
  ∀ (i : Instr) (s t : State) (c : Ch), exec i s = .next t → (s.ch c).on = true → (t.ch c).on = false →
    ((∃ dsm div, i = .advance dsm div) ∧
      (¬ dacOn s c ∨ ((s.ch c).len = 1 ∧ (t.ch c).len = 0) ∨
        (c = .c1 ∧ s.ch1.reg0.toNat / 16 % 8 ≠ 0 ∧ s.ch1.reg0.toNat / 8 % 2 = 0 ∧ 0x7FF ≤ t.ch1.shadow.toNat +
          t.ch1.shadow.toNat / 2 ^ (s.ch1.reg0.toNat % 8)))) ∨
    (∃ v, i = triggerWrite c v ∧ v.toNat / 64 % 2 = 1 ∧ (s.ch c).len = 1 ∧ ¬ lengthEnabled (s.ch c)) ∨
    (∃ v, i = .wrNr52 v ∧ v.toNat < 128) ∨ i = .reset

/-- Only an FS edge, a power-on and RESET change `FS.step` (spec/10_state.md R58, spec/42_frame_sequencer.md R203). The power-on
that does is the spec's decision D23. -/
def Obligations.OnlyTheseChangeTheFrameSequencer : Prop :=
  ∀ (i : Instr) (s t : State), exec i s = .next t → t.fsStep ≠ s.fsStep →
    (∃ dsm div, i = .advance dsm div ∧ edgeSeen s dsm div ∧ t.fsStep = s.fsStep + 1) ∨
    (∃ v, i = .wrNr52 v ∧ 128 ≤ v.toNat ∧ t.fsStep = 0) ∨ (i = .reset ∧ t.fsStep = 0)

/-- A length counter rises only by a write of its length register or, to its maximum, by a trigger write (spec/43_pulse_channels.md
R233). R233 is marked "derived". -/
def Obligations.LengthRisesOnlyByTheseWrites : Prop :=
  ∀ (i : Instr) (s t : State) (c : Ch), exec i s = .next t → (s.ch c).len < (t.ch c).len →
    (∃ v, i = lengthWrite c v) ∨ (∃ v, i = triggerWrite c v ∧ 128 ≤ v.toNat ∧ (t.ch c).len = maxLen c)

/-- Wave RAM is changed only by its writes and RESET (spec/10_state.md R57), the resampler only by ADVANCE and RESET (R60), and the
parameters by nothing. The resampler's is the spec's decision D24, the parameters' assumption log 7. -/
def Obligations.WaveRamResamplerAndParametersFrames : Prop :=
  ∀ (i : Instr) (s t : State), exec i s = .next t →
    (t.mem ≠ s.mem → (∃ k v, i = .wrWave k v) ∨ i = .reset) ∧
    (t.rs ≠ s.rs → (∃ dsm div, i = .advance dsm div) ∨ i = .reset) ∧ t.params = s.params

/-! ### Invariants every step keeps -/

/-- Every step keeps the memory's canonical form. The form is the model's own (assumption log 9). -/
def Obligations.MemoryStaysCanonical : Prop := ∀ s t : State, s.MemOk → step s = .next t → t.MemOk

/-- Every step keeps the length counters and the noise countdown in their ranges (spec/10_state.md R63, spec/45_noise_channel.md
R278). R63 and R278 are marked "derived". -/
def Obligations.CountersStayInRange : Prop :=
  ∀ s t : State, s.LengthsOk → s.NoiseOk → step s = .next t → t.LengthsOk ∧ t.NoiseOk

/-- Every step keeps the resampler in the ranges of R60. Rests on the spec's decisions D21 and D24. -/
def Obligations.ResamplerStaysInRange : Prop :=
  ∀ s t : State, s.params.wellFormed = true → s.ResamplerOk → step s = .next t → t.ResamplerOk

/-- While powered off every channel record and both mixer registers stay zero, through ADVANCEs as well (R63,
spec/42_frame_sequencer.md R206). Rests on the spec's decision D25; R63 is marked "derived". -/
def Obligations.PoweredOffStateStaysZero : Prop := ∀ s t : State, s.OffIsZero → step s = .next t → t.OffIsZero

/-- Every step keeps the edge flags clear (R62), the unaddressed slots and the fields a kind does not use at 0, and the pulse
indexes in 3 bits (R25, R26, spec/43_pulse_channels.md R232). R62 is marked "derived", R26 the spec's decision D39. -/
def Obligations.LayoutStays : Prop :=
  ∀ s t : State, s.EdgesClear → s.LayoutOk → step s = .next t → t.EdgesClear ∧ t.LayoutOk

/-- The state after RESET meets every invariant, for all parameters R7 admits, and is safe. The parameters are assumption log 7. -/
def Obligations.ResetMeetsTheInvariants : Prop :=
  ∀ p : Params, p.wellFormed = true →
    (State.resetWith p).MemOk ∧ (State.resetWith p).LengthsOk ∧ (State.resetWith p).NoiseOk ∧ (State.resetWith p).EdgesClear ∧
    (State.resetWith p).OffIsZero ∧ (State.resetWith p).ResamplerOk ∧ (State.resetWith p).LayoutOk ∧ (State.resetWith p).Safe
end

