-- ==== Sys2Proof/Laws/State.lean ====
section
/-! SUPPORT. One lemma per field per named update of the state, so that no proof unfolds a record update. -/

namespace Sys2Proof.Machine

/-! ### answerRead -/

@[simp] theorem State.answerRead_ch1 (b : Byte) (s : State) : (s.answerRead b).ch1 = s.ch1 := rfl
@[simp] theorem State.answerRead_ch2 (b : Byte) (s : State) : (s.answerRead b).ch2 = s.ch2 := rfl
@[simp] theorem State.answerRead_ch3 (b : Byte) (s : State) : (s.answerRead b).ch3 = s.ch3 := rfl
@[simp] theorem State.answerRead_ch4 (b : Byte) (s : State) : (s.answerRead b).ch4 = s.ch4 := rfl
@[simp] theorem State.answerRead_nr50 (b : Byte) (s : State) : (s.answerRead b).nr50 = s.nr50 := rfl
@[simp] theorem State.answerRead_nr51 (b : Byte) (s : State) : (s.answerRead b).nr51 = s.nr51 := rfl
@[simp] theorem State.answerRead_power (b : Byte) (s : State) : (s.answerRead b).power = s.power := rfl
@[simp] theorem State.answerRead_mem (b : Byte) (s : State) : (s.answerRead b).mem = s.mem := rfl
@[simp] theorem State.answerRead_fsStep (b : Byte) (s : State) : (s.answerRead b).fsStep = s.fsStep := rfl
@[simp] theorem State.answerRead_fsEdgeStep (b : Byte) (s : State) : (s.answerRead b).fsEdgeStep = s.fsEdgeStep := rfl
@[simp] theorem State.answerRead_divSnap (b : Byte) (s : State) : (s.answerRead b).divSnap = s.divSnap := rfl
@[simp] theorem State.answerRead_rs (b : Byte) (s : State) : (s.answerRead b).rs = s.rs := rfl
@[simp] theorem State.answerRead_init (b : Byte) (s : State) : (s.answerRead b).init = s.init := rfl
@[simp] theorem State.answerRead_refusals (b : Byte) (s : State) : (s.answerRead b).refusals = s.refusals := rfl
@[simp] theorem State.answerRead_params (b : Byte) (s : State) : (s.answerRead b).params = s.params := rfl
@[simp] theorem State.answerRead_pending (b : Byte) (s : State) : (s.answerRead b).pending = s.pending := rfl
@[simp] theorem State.answerRead_sinkPlan (b : Byte) (s : State) : (s.answerRead b).sinkPlan = s.sinkPlan := rfl
@[simp] theorem State.answerRead_result (b : Byte) (s : State) : (s.answerRead b).result = .readByte b := rfl
@[simp] theorem State.answerRead_reads (b : Byte) (s : State) : (s.answerRead b).reads = s.reads ++ [b] := rfl
@[simp] theorem State.answerRead_samples (b : Byte) (s : State) : (s.answerRead b).samples = s.samples := rfl
@[simp] theorem State.answerRead_draws (b : Byte) (s : State) : (s.answerRead b).draws = s.draws := rfl

/-! ### answerWrite -/

@[simp] theorem State.answerWrite_ch1 (s : State) : s.answerWrite.ch1 = s.ch1 := rfl
@[simp] theorem State.answerWrite_ch2 (s : State) : s.answerWrite.ch2 = s.ch2 := rfl
@[simp] theorem State.answerWrite_ch3 (s : State) : s.answerWrite.ch3 = s.ch3 := rfl
@[simp] theorem State.answerWrite_ch4 (s : State) : s.answerWrite.ch4 = s.ch4 := rfl
@[simp] theorem State.answerWrite_nr50 (s : State) : s.answerWrite.nr50 = s.nr50 := rfl
@[simp] theorem State.answerWrite_nr51 (s : State) : s.answerWrite.nr51 = s.nr51 := rfl
@[simp] theorem State.answerWrite_power (s : State) : s.answerWrite.power = s.power := rfl
@[simp] theorem State.answerWrite_mem (s : State) : s.answerWrite.mem = s.mem := rfl
@[simp] theorem State.answerWrite_fsStep (s : State) : s.answerWrite.fsStep = s.fsStep := rfl
@[simp] theorem State.answerWrite_fsEdgeStep (s : State) : s.answerWrite.fsEdgeStep = s.fsEdgeStep := rfl
@[simp] theorem State.answerWrite_divSnap (s : State) : s.answerWrite.divSnap = s.divSnap := rfl
@[simp] theorem State.answerWrite_rs (s : State) : s.answerWrite.rs = s.rs := rfl
@[simp] theorem State.answerWrite_init (s : State) : s.answerWrite.init = s.init := rfl
@[simp] theorem State.answerWrite_refusals (s : State) : s.answerWrite.refusals = s.refusals := rfl
@[simp] theorem State.answerWrite_params (s : State) : s.answerWrite.params = s.params := rfl
@[simp] theorem State.answerWrite_pending (s : State) : s.answerWrite.pending = s.pending := rfl
@[simp] theorem State.answerWrite_sinkPlan (s : State) : s.answerWrite.sinkPlan = s.sinkPlan := rfl
@[simp] theorem State.answerWrite_result (s : State) : s.answerWrite.result = .writeByte (Config.freeByte s.draws) := rfl
@[simp] theorem State.answerWrite_reads (s : State) : s.answerWrite.reads = s.reads := rfl
@[simp] theorem State.answerWrite_samples (s : State) : s.answerWrite.samples = s.samples := rfl
@[simp] theorem State.answerWrite_draws (s : State) : s.answerWrite.draws = s.draws + 1 := rfl

/-! ### refuse -/

@[simp] theorem State.refuse_ch1 (r : RefusalReason) (s : State) : (s.refuse r).ch1 = s.ch1 := rfl
@[simp] theorem State.refuse_ch2 (r : RefusalReason) (s : State) : (s.refuse r).ch2 = s.ch2 := rfl
@[simp] theorem State.refuse_ch3 (r : RefusalReason) (s : State) : (s.refuse r).ch3 = s.ch3 := rfl
@[simp] theorem State.refuse_ch4 (r : RefusalReason) (s : State) : (s.refuse r).ch4 = s.ch4 := rfl
@[simp] theorem State.refuse_nr50 (r : RefusalReason) (s : State) : (s.refuse r).nr50 = s.nr50 := rfl
@[simp] theorem State.refuse_nr51 (r : RefusalReason) (s : State) : (s.refuse r).nr51 = s.nr51 := rfl
@[simp] theorem State.refuse_power (r : RefusalReason) (s : State) : (s.refuse r).power = s.power := rfl
@[simp] theorem State.refuse_mem (r : RefusalReason) (s : State) : (s.refuse r).mem = s.mem := rfl
@[simp] theorem State.refuse_fsStep (r : RefusalReason) (s : State) : (s.refuse r).fsStep = s.fsStep := rfl
@[simp] theorem State.refuse_fsEdgeStep (r : RefusalReason) (s : State) : (s.refuse r).fsEdgeStep = s.fsEdgeStep := rfl
@[simp] theorem State.refuse_divSnap (r : RefusalReason) (s : State) : (s.refuse r).divSnap = s.divSnap := rfl
@[simp] theorem State.refuse_rs (r : RefusalReason) (s : State) : (s.refuse r).rs = s.rs := rfl
@[simp] theorem State.refuse_init (r : RefusalReason) (s : State) : (s.refuse r).init = s.init := rfl
@[simp] theorem State.refuse_refusals (r : RefusalReason) (s : State) : (s.refuse r).refusals = s.refusals ++ [r] := rfl
@[simp] theorem State.refuse_params (r : RefusalReason) (s : State) : (s.refuse r).params = s.params := rfl
@[simp] theorem State.refuse_pending (r : RefusalReason) (s : State) : (s.refuse r).pending = s.pending := rfl
@[simp] theorem State.refuse_sinkPlan (r : RefusalReason) (s : State) : (s.refuse r).sinkPlan = s.sinkPlan := rfl
@[simp] theorem State.refuse_result (r : RefusalReason) (s : State) : (s.refuse r).result = .refused r := rfl
@[simp] theorem State.refuse_reads (r : RefusalReason) (s : State) : (s.refuse r).reads = s.reads := rfl
@[simp] theorem State.refuse_samples (r : RefusalReason) (s : State) : (s.refuse r).samples = s.samples := rfl
@[simp] theorem State.refuse_draws (r : RefusalReason) (s : State) : (s.refuse r).draws = s.draws := rfl

/-! ### emit -/

@[simp] theorem State.emit_ch1 (x : Nat × Nat) (s : State) : (s.emit x).ch1 = s.ch1 := rfl
@[simp] theorem State.emit_ch2 (x : Nat × Nat) (s : State) : (s.emit x).ch2 = s.ch2 := rfl
@[simp] theorem State.emit_ch3 (x : Nat × Nat) (s : State) : (s.emit x).ch3 = s.ch3 := rfl
@[simp] theorem State.emit_ch4 (x : Nat × Nat) (s : State) : (s.emit x).ch4 = s.ch4 := rfl
@[simp] theorem State.emit_nr50 (x : Nat × Nat) (s : State) : (s.emit x).nr50 = s.nr50 := rfl
@[simp] theorem State.emit_nr51 (x : Nat × Nat) (s : State) : (s.emit x).nr51 = s.nr51 := rfl
@[simp] theorem State.emit_power (x : Nat × Nat) (s : State) : (s.emit x).power = s.power := rfl
@[simp] theorem State.emit_mem (x : Nat × Nat) (s : State) : (s.emit x).mem = s.mem := rfl
@[simp] theorem State.emit_fsStep (x : Nat × Nat) (s : State) : (s.emit x).fsStep = s.fsStep := rfl
@[simp] theorem State.emit_fsEdgeStep (x : Nat × Nat) (s : State) : (s.emit x).fsEdgeStep = s.fsEdgeStep := rfl
@[simp] theorem State.emit_divSnap (x : Nat × Nat) (s : State) : (s.emit x).divSnap = s.divSnap := rfl
@[simp] theorem State.emit_rs (x : Nat × Nat) (s : State) : (s.emit x).rs = s.rs := rfl
@[simp] theorem State.emit_init (x : Nat × Nat) (s : State) : (s.emit x).init = s.init := rfl
@[simp] theorem State.emit_refusals (x : Nat × Nat) (s : State) : (s.emit x).refusals = s.refusals ++ s.sinkPlan.map (fun _ => RefusalReason.sinkReentry) := rfl
@[simp] theorem State.emit_params (x : Nat × Nat) (s : State) : (s.emit x).params = s.params := rfl
@[simp] theorem State.emit_pending (x : Nat × Nat) (s : State) : (s.emit x).pending = s.pending := rfl
@[simp] theorem State.emit_sinkPlan (x : Nat × Nat) (s : State) : (s.emit x).sinkPlan = [] := rfl
@[simp] theorem State.emit_result (x : Nat × Nat) (s : State) : (s.emit x).result = .advanced (some x) := rfl
@[simp] theorem State.emit_reads (x : Nat × Nat) (s : State) : (s.emit x).reads = s.reads := rfl
@[simp] theorem State.emit_samples (x : Nat × Nat) (s : State) : (s.emit x).samples = s.samples ++ [x] := rfl
@[simp] theorem State.emit_draws (x : Nat × Nat) (s : State) : (s.emit x).draws = s.draws := rfl

/-! ### storeWave -/

@[simp] theorem State.storeWave_ch1 (k : BitVec 4) (v : Byte) (s : State) : (s.storeWave k v).ch1 = s.ch1 := rfl
@[simp] theorem State.storeWave_ch2 (k : BitVec 4) (v : Byte) (s : State) : (s.storeWave k v).ch2 = s.ch2 := rfl
@[simp] theorem State.storeWave_ch3 (k : BitVec 4) (v : Byte) (s : State) : (s.storeWave k v).ch3 = s.ch3 := rfl
@[simp] theorem State.storeWave_ch4 (k : BitVec 4) (v : Byte) (s : State) : (s.storeWave k v).ch4 = s.ch4 := rfl
@[simp] theorem State.storeWave_nr50 (k : BitVec 4) (v : Byte) (s : State) : (s.storeWave k v).nr50 = s.nr50 := rfl
@[simp] theorem State.storeWave_nr51 (k : BitVec 4) (v : Byte) (s : State) : (s.storeWave k v).nr51 = s.nr51 := rfl
@[simp] theorem State.storeWave_power (k : BitVec 4) (v : Byte) (s : State) : (s.storeWave k v).power = s.power := rfl
@[simp] theorem State.storeWave_mem (k : BitVec 4) (v : Byte) (s : State) : (s.storeWave k v).mem = Memory.write s.mem (waveAddr k) v := rfl
@[simp] theorem State.storeWave_fsStep (k : BitVec 4) (v : Byte) (s : State) : (s.storeWave k v).fsStep = s.fsStep := rfl
@[simp] theorem State.storeWave_fsEdgeStep (k : BitVec 4) (v : Byte) (s : State) : (s.storeWave k v).fsEdgeStep = s.fsEdgeStep := rfl
@[simp] theorem State.storeWave_divSnap (k : BitVec 4) (v : Byte) (s : State) : (s.storeWave k v).divSnap = s.divSnap := rfl
@[simp] theorem State.storeWave_rs (k : BitVec 4) (v : Byte) (s : State) : (s.storeWave k v).rs = s.rs := rfl
@[simp] theorem State.storeWave_init (k : BitVec 4) (v : Byte) (s : State) : (s.storeWave k v).init = s.init := rfl
@[simp] theorem State.storeWave_refusals (k : BitVec 4) (v : Byte) (s : State) : (s.storeWave k v).refusals = s.refusals := rfl
@[simp] theorem State.storeWave_params (k : BitVec 4) (v : Byte) (s : State) : (s.storeWave k v).params = s.params := rfl
@[simp] theorem State.storeWave_pending (k : BitVec 4) (v : Byte) (s : State) : (s.storeWave k v).pending = s.pending := rfl
@[simp] theorem State.storeWave_sinkPlan (k : BitVec 4) (v : Byte) (s : State) : (s.storeWave k v).sinkPlan = s.sinkPlan := rfl
@[simp] theorem State.storeWave_result (k : BitVec 4) (v : Byte) (s : State) : (s.storeWave k v).result = s.result := rfl
@[simp] theorem State.storeWave_reads (k : BitVec 4) (v : Byte) (s : State) : (s.storeWave k v).reads = s.reads := rfl
@[simp] theorem State.storeWave_samples (k : BitVec 4) (v : Byte) (s : State) : (s.storeWave k v).samples = s.samples := rfl
@[simp] theorem State.storeWave_draws (k : BitVec 4) (v : Byte) (s : State) : (s.storeWave k v).draws = s.draws := rfl

/-! ### pushWord -/

@[simp] theorem State.pushWord_ch1 (w : TWord) (s : State) : (s.pushWord w).ch1 = s.ch1 := rfl
@[simp] theorem State.pushWord_ch2 (w : TWord) (s : State) : (s.pushWord w).ch2 = s.ch2 := rfl
@[simp] theorem State.pushWord_ch3 (w : TWord) (s : State) : (s.pushWord w).ch3 = s.ch3 := rfl
@[simp] theorem State.pushWord_ch4 (w : TWord) (s : State) : (s.pushWord w).ch4 = s.ch4 := rfl
@[simp] theorem State.pushWord_nr50 (w : TWord) (s : State) : (s.pushWord w).nr50 = s.nr50 := rfl
@[simp] theorem State.pushWord_nr51 (w : TWord) (s : State) : (s.pushWord w).nr51 = s.nr51 := rfl
@[simp] theorem State.pushWord_power (w : TWord) (s : State) : (s.pushWord w).power = s.power := rfl
@[simp] theorem State.pushWord_mem (w : TWord) (s : State) : (s.pushWord w).mem = s.mem := rfl
@[simp] theorem State.pushWord_fsStep (w : TWord) (s : State) : (s.pushWord w).fsStep = s.fsStep := rfl
@[simp] theorem State.pushWord_fsEdgeStep (w : TWord) (s : State) : (s.pushWord w).fsEdgeStep = s.fsEdgeStep := rfl
@[simp] theorem State.pushWord_divSnap (w : TWord) (s : State) : (s.pushWord w).divSnap = s.divSnap := rfl
@[simp] theorem State.pushWord_rs (w : TWord) (s : State) : (s.pushWord w).rs = s.rs := rfl
@[simp] theorem State.pushWord_init (w : TWord) (s : State) : (s.pushWord w).init = s.init := rfl
@[simp] theorem State.pushWord_refusals (w : TWord) (s : State) : (s.pushWord w).refusals = s.refusals := rfl
@[simp] theorem State.pushWord_params (w : TWord) (s : State) : (s.pushWord w).params = s.params := rfl
@[simp] theorem State.pushWord_pending (w : TWord) (s : State) : (s.pushWord w).pending = w :: s.pending := rfl
@[simp] theorem State.pushWord_sinkPlan (w : TWord) (s : State) : (s.pushWord w).sinkPlan = s.sinkPlan := rfl
@[simp] theorem State.pushWord_result (w : TWord) (s : State) : (s.pushWord w).result = s.result := rfl
@[simp] theorem State.pushWord_reads (w : TWord) (s : State) : (s.pushWord w).reads = s.reads := rfl
@[simp] theorem State.pushWord_samples (w : TWord) (s : State) : (s.pushWord w).samples = s.samples := rfl
@[simp] theorem State.pushWord_draws (w : TWord) (s : State) : (s.pushWord w).draws = s.draws := rfl

/-! ### fsEdge -/

@[simp] theorem State.fsEdge_ch1 (s : State) : s.fsEdge.ch1 = { s.ch1 with edge := true } := rfl
@[simp] theorem State.fsEdge_ch2 (s : State) : s.fsEdge.ch2 = { s.ch2 with edge := true } := rfl
@[simp] theorem State.fsEdge_ch3 (s : State) : s.fsEdge.ch3 = { s.ch3 with edge := true } := rfl
@[simp] theorem State.fsEdge_ch4 (s : State) : s.fsEdge.ch4 = { s.ch4 with edge := true } := rfl
@[simp] theorem State.fsEdge_nr50 (s : State) : s.fsEdge.nr50 = s.nr50 := rfl
@[simp] theorem State.fsEdge_nr51 (s : State) : s.fsEdge.nr51 = s.nr51 := rfl
@[simp] theorem State.fsEdge_power (s : State) : s.fsEdge.power = s.power := rfl
@[simp] theorem State.fsEdge_mem (s : State) : s.fsEdge.mem = s.mem := rfl
@[simp] theorem State.fsEdge_fsStep (s : State) : s.fsEdge.fsStep = s.fsStep + 1 := rfl
@[simp] theorem State.fsEdge_fsEdgeStep (s : State) : s.fsEdge.fsEdgeStep = s.nextStep := rfl
@[simp] theorem State.fsEdge_divSnap (s : State) : s.fsEdge.divSnap = s.divSnap := rfl
@[simp] theorem State.fsEdge_rs (s : State) : s.fsEdge.rs = s.rs := rfl
@[simp] theorem State.fsEdge_init (s : State) : s.fsEdge.init = s.init := rfl
@[simp] theorem State.fsEdge_refusals (s : State) : s.fsEdge.refusals = s.refusals := rfl
@[simp] theorem State.fsEdge_params (s : State) : s.fsEdge.params = s.params := rfl
@[simp] theorem State.fsEdge_pending (s : State) : s.fsEdge.pending = s.pending := rfl
@[simp] theorem State.fsEdge_sinkPlan (s : State) : s.fsEdge.sinkPlan = s.sinkPlan := rfl
@[simp] theorem State.fsEdge_result (s : State) : s.fsEdge.result = s.result := rfl
@[simp] theorem State.fsEdge_reads (s : State) : s.fsEdge.reads = s.reads := rfl
@[simp] theorem State.fsEdge_samples (s : State) : s.fsEdge.samples = s.samples := rfl
@[simp] theorem State.fsEdge_draws (s : State) : s.fsEdge.draws = s.draws := rfl

/-! ### powerOff -/

@[simp] theorem State.powerOff_ch1 (s : State) : s.powerOff.ch1 = Channel.zero := rfl
@[simp] theorem State.powerOff_ch2 (s : State) : s.powerOff.ch2 = Channel.zero := rfl
@[simp] theorem State.powerOff_ch3 (s : State) : s.powerOff.ch3 = Channel.zero := rfl
@[simp] theorem State.powerOff_ch4 (s : State) : s.powerOff.ch4 = Channel.zero := rfl
@[simp] theorem State.powerOff_nr50 (s : State) : s.powerOff.nr50 = 0 := rfl
@[simp] theorem State.powerOff_nr51 (s : State) : s.powerOff.nr51 = 0 := rfl
@[simp] theorem State.powerOff_power (s : State) : s.powerOff.power = false := rfl
@[simp] theorem State.powerOff_mem (s : State) : s.powerOff.mem = s.mem := rfl
@[simp] theorem State.powerOff_fsStep (s : State) : s.powerOff.fsStep = s.fsStep := rfl
@[simp] theorem State.powerOff_fsEdgeStep (s : State) : s.powerOff.fsEdgeStep = s.fsEdgeStep := rfl
@[simp] theorem State.powerOff_divSnap (s : State) : s.powerOff.divSnap = s.divSnap := rfl
@[simp] theorem State.powerOff_rs (s : State) : s.powerOff.rs = s.rs := rfl
@[simp] theorem State.powerOff_init (s : State) : s.powerOff.init = s.init := rfl
@[simp] theorem State.powerOff_refusals (s : State) : s.powerOff.refusals = s.refusals := rfl
@[simp] theorem State.powerOff_params (s : State) : s.powerOff.params = s.params := rfl
@[simp] theorem State.powerOff_pending (s : State) : s.powerOff.pending = s.pending := rfl
@[simp] theorem State.powerOff_sinkPlan (s : State) : s.powerOff.sinkPlan = s.sinkPlan := rfl
@[simp] theorem State.powerOff_result (s : State) : s.powerOff.result = s.result := rfl
@[simp] theorem State.powerOff_reads (s : State) : s.powerOff.reads = s.reads := rfl
@[simp] theorem State.powerOff_samples (s : State) : s.powerOff.samples = s.samples := rfl
@[simp] theorem State.powerOff_draws (s : State) : s.powerOff.draws = s.draws := rfl

/-! ### powerOn -/

@[simp] theorem State.powerOn_ch1 (s : State) : s.powerOn.ch1 = s.ch1 := rfl
@[simp] theorem State.powerOn_ch2 (s : State) : s.powerOn.ch2 = s.ch2 := rfl
@[simp] theorem State.powerOn_ch3 (s : State) : s.powerOn.ch3 = s.ch3 := rfl
@[simp] theorem State.powerOn_ch4 (s : State) : s.powerOn.ch4 = s.ch4 := rfl
@[simp] theorem State.powerOn_nr50 (s : State) : s.powerOn.nr50 = s.nr50 := rfl
@[simp] theorem State.powerOn_nr51 (s : State) : s.powerOn.nr51 = s.nr51 := rfl
@[simp] theorem State.powerOn_power (s : State) : s.powerOn.power = true := rfl
@[simp] theorem State.powerOn_mem (s : State) : s.powerOn.mem = s.mem := rfl
@[simp] theorem State.powerOn_fsStep (s : State) : s.powerOn.fsStep = if !s.power || s.params.nr52FsResetOnEverySet then 0 else s.fsStep := rfl
@[simp] theorem State.powerOn_fsEdgeStep (s : State) : s.powerOn.fsEdgeStep = s.fsEdgeStep := rfl
@[simp] theorem State.powerOn_divSnap (s : State) : s.powerOn.divSnap = s.divSnap := rfl
@[simp] theorem State.powerOn_rs (s : State) : s.powerOn.rs = s.rs := rfl
@[simp] theorem State.powerOn_init (s : State) : s.powerOn.init = s.init := rfl
@[simp] theorem State.powerOn_refusals (s : State) : s.powerOn.refusals = s.refusals := rfl
@[simp] theorem State.powerOn_params (s : State) : s.powerOn.params = s.params := rfl
@[simp] theorem State.powerOn_pending (s : State) : s.powerOn.pending = s.pending := rfl
@[simp] theorem State.powerOn_sinkPlan (s : State) : s.powerOn.sinkPlan = s.sinkPlan := rfl
@[simp] theorem State.powerOn_result (s : State) : s.powerOn.result = s.result := rfl
@[simp] theorem State.powerOn_reads (s : State) : s.powerOn.reads = s.reads := rfl
@[simp] theorem State.powerOn_samples (s : State) : s.powerOn.samples = s.samples := rfl
@[simp] theorem State.powerOn_draws (s : State) : s.powerOn.draws = s.draws := rfl

/-! ### resetApu -/

@[simp] theorem State.resetApu_ch1 (s : State) : s.resetApu.ch1 = Channel.zero := rfl
@[simp] theorem State.resetApu_ch2 (s : State) : s.resetApu.ch2 = Channel.zero := rfl
@[simp] theorem State.resetApu_ch3 (s : State) : s.resetApu.ch3 = Channel.zero := rfl
@[simp] theorem State.resetApu_ch4 (s : State) : s.resetApu.ch4 = Channel.zero := rfl
@[simp] theorem State.resetApu_nr50 (s : State) : s.resetApu.nr50 = 0 := rfl
@[simp] theorem State.resetApu_nr51 (s : State) : s.resetApu.nr51 = 0 := rfl
@[simp] theorem State.resetApu_power (s : State) : s.resetApu.power = false := rfl
@[simp] theorem State.resetApu_mem (s : State) : s.resetApu.mem = [] := rfl
@[simp] theorem State.resetApu_fsStep (s : State) : s.resetApu.fsStep = 0 := rfl
@[simp] theorem State.resetApu_fsEdgeStep (s : State) : s.resetApu.fsEdgeStep = 0 := rfl
@[simp] theorem State.resetApu_divSnap (s : State) : s.resetApu.divSnap = 0 := rfl
@[simp] theorem State.resetApu_rs (s : State) : s.resetApu.rs = { countdown := s.params.q, rem := 0, acc := 0, count := 0 } := rfl
@[simp] theorem State.resetApu_init (s : State) : s.resetApu.init = true := rfl
@[simp] theorem State.resetApu_refusals (s : State) : s.resetApu.refusals = s.refusals := rfl
@[simp] theorem State.resetApu_params (s : State) : s.resetApu.params = s.params := rfl
@[simp] theorem State.resetApu_pending (s : State) : s.resetApu.pending = s.pending := rfl
@[simp] theorem State.resetApu_sinkPlan (s : State) : s.resetApu.sinkPlan = s.sinkPlan := rfl
@[simp] theorem State.resetApu_result (s : State) : s.resetApu.result = .none := rfl
@[simp] theorem State.resetApu_reads (s : State) : s.resetApu.reads = s.reads := rfl
@[simp] theorem State.resetApu_samples (s : State) : s.resetApu.samples = s.samples := rfl
@[simp] theorem State.resetApu_draws (s : State) : s.resetApu.draws = s.draws := rfl

/-! ### resetWith -/

@[simp] theorem State.resetWith_ch1 (p : Params) : (State.resetWith p).ch1 = Channel.zero := rfl
@[simp] theorem State.resetWith_ch2 (p : Params) : (State.resetWith p).ch2 = Channel.zero := rfl
@[simp] theorem State.resetWith_ch3 (p : Params) : (State.resetWith p).ch3 = Channel.zero := rfl
@[simp] theorem State.resetWith_ch4 (p : Params) : (State.resetWith p).ch4 = Channel.zero := rfl
@[simp] theorem State.resetWith_nr50 (p : Params) : (State.resetWith p).nr50 = 0 := rfl
@[simp] theorem State.resetWith_nr51 (p : Params) : (State.resetWith p).nr51 = 0 := rfl
@[simp] theorem State.resetWith_power (p : Params) : (State.resetWith p).power = false := rfl
@[simp] theorem State.resetWith_mem (p : Params) : (State.resetWith p).mem = [] := rfl
@[simp] theorem State.resetWith_fsStep (p : Params) : (State.resetWith p).fsStep = 0 := rfl
@[simp] theorem State.resetWith_fsEdgeStep (p : Params) : (State.resetWith p).fsEdgeStep = 0 := rfl
@[simp] theorem State.resetWith_divSnap (p : Params) : (State.resetWith p).divSnap = 0 := rfl
@[simp] theorem State.resetWith_rs (p : Params) : (State.resetWith p).rs = { countdown := p.q, rem := 0, acc := 0, count := 0 } := rfl
@[simp] theorem State.resetWith_init (p : Params) : (State.resetWith p).init = true := rfl
@[simp] theorem State.resetWith_refusals (p : Params) : (State.resetWith p).refusals = [] := rfl
@[simp] theorem State.resetWith_params (p : Params) : (State.resetWith p).params = p := rfl
@[simp] theorem State.resetWith_pending (p : Params) : (State.resetWith p).pending = [] := rfl
@[simp] theorem State.resetWith_sinkPlan (p : Params) : (State.resetWith p).sinkPlan = [] := rfl
@[simp] theorem State.resetWith_result (p : Params) : (State.resetWith p).result = .none := rfl
@[simp] theorem State.resetWith_reads (p : Params) : (State.resetWith p).reads = [] := rfl
@[simp] theorem State.resetWith_samples (p : Params) : (State.resetWith p).samples = [] := rfl
@[simp] theorem State.resetWith_draws (p : Params) : (State.resetWith p).draws = 0 := rfl

/-! ### tickChannels_fst -/

@[simp] theorem State.tickChannels_fst_ch1 (s : State) : s.tickChannels.1.ch1 = (s.ch1.tickPulse true s.params.duty s.fsEdgeStep).1 := rfl
@[simp] theorem State.tickChannels_fst_ch2 (s : State) : s.tickChannels.1.ch2 = (s.ch2.tickPulse false s.params.duty s.fsEdgeStep).1 := rfl
@[simp] theorem State.tickChannels_fst_ch3 (s : State) : s.tickChannels.1.ch3 = (s.ch3.tickWaveTwice s.mem s.fsEdgeStep).1 := rfl
@[simp] theorem State.tickChannels_fst_ch4 (s : State) : s.tickChannels.1.ch4 = (s.ch4.tickNoise s.fsEdgeStep).1 := rfl
@[simp] theorem State.tickChannels_fst_nr50 (s : State) : s.tickChannels.1.nr50 = s.nr50 := rfl
@[simp] theorem State.tickChannels_fst_nr51 (s : State) : s.tickChannels.1.nr51 = s.nr51 := rfl
@[simp] theorem State.tickChannels_fst_power (s : State) : s.tickChannels.1.power = s.power := rfl
@[simp] theorem State.tickChannels_fst_mem (s : State) : s.tickChannels.1.mem = s.mem := rfl
@[simp] theorem State.tickChannels_fst_fsStep (s : State) : s.tickChannels.1.fsStep = s.fsStep := rfl
@[simp] theorem State.tickChannels_fst_fsEdgeStep (s : State) : s.tickChannels.1.fsEdgeStep = s.fsEdgeStep := rfl
@[simp] theorem State.tickChannels_fst_divSnap (s : State) : s.tickChannels.1.divSnap = s.divSnap := rfl
@[simp] theorem State.tickChannels_fst_rs (s : State) : s.tickChannels.1.rs = s.rs := rfl
@[simp] theorem State.tickChannels_fst_init (s : State) : s.tickChannels.1.init = s.init := rfl
@[simp] theorem State.tickChannels_fst_refusals (s : State) : s.tickChannels.1.refusals = s.refusals := rfl
@[simp] theorem State.tickChannels_fst_params (s : State) : s.tickChannels.1.params = s.params := rfl
@[simp] theorem State.tickChannels_fst_pending (s : State) : s.tickChannels.1.pending = s.pending := rfl
@[simp] theorem State.tickChannels_fst_sinkPlan (s : State) : s.tickChannels.1.sinkPlan = s.sinkPlan := rfl
@[simp] theorem State.tickChannels_fst_result (s : State) : s.tickChannels.1.result = s.result := rfl
@[simp] theorem State.tickChannels_fst_reads (s : State) : s.tickChannels.1.reads = s.reads := rfl
@[simp] theorem State.tickChannels_fst_samples (s : State) : s.tickChannels.1.samples = s.samples := rfl
@[simp] theorem State.tickChannels_fst_draws (s : State) : s.tickChannels.1.draws = s.draws := rfl

/-! ### setCh, ch -/

@[simp] theorem State.setCh_nr50 (s : State) (c : Ch) (x : Channel) : (s.setCh c x).nr50 = s.nr50 := by cases c <;> rfl
@[simp] theorem State.setCh_nr51 (s : State) (c : Ch) (x : Channel) : (s.setCh c x).nr51 = s.nr51 := by cases c <;> rfl
@[simp] theorem State.setCh_power (s : State) (c : Ch) (x : Channel) : (s.setCh c x).power = s.power := by cases c <;> rfl
@[simp] theorem State.setCh_mem (s : State) (c : Ch) (x : Channel) : (s.setCh c x).mem = s.mem := by cases c <;> rfl
@[simp] theorem State.setCh_fsStep (s : State) (c : Ch) (x : Channel) : (s.setCh c x).fsStep = s.fsStep := by cases c <;> rfl
@[simp] theorem State.setCh_fsEdgeStep (s : State) (c : Ch) (x : Channel) : (s.setCh c x).fsEdgeStep = s.fsEdgeStep := by cases c <;> rfl
@[simp] theorem State.setCh_divSnap (s : State) (c : Ch) (x : Channel) : (s.setCh c x).divSnap = s.divSnap := by cases c <;> rfl
@[simp] theorem State.setCh_rs (s : State) (c : Ch) (x : Channel) : (s.setCh c x).rs = s.rs := by cases c <;> rfl
@[simp] theorem State.setCh_init (s : State) (c : Ch) (x : Channel) : (s.setCh c x).init = s.init := by cases c <;> rfl
@[simp] theorem State.setCh_refusals (s : State) (c : Ch) (x : Channel) : (s.setCh c x).refusals = s.refusals := by cases c <;> rfl
@[simp] theorem State.setCh_params (s : State) (c : Ch) (x : Channel) : (s.setCh c x).params = s.params := by cases c <;> rfl
@[simp] theorem State.setCh_pending (s : State) (c : Ch) (x : Channel) : (s.setCh c x).pending = s.pending := by cases c <;> rfl
@[simp] theorem State.setCh_sinkPlan (s : State) (c : Ch) (x : Channel) : (s.setCh c x).sinkPlan = s.sinkPlan := by cases c <;> rfl
@[simp] theorem State.setCh_result (s : State) (c : Ch) (x : Channel) : (s.setCh c x).result = s.result := by cases c <;> rfl
@[simp] theorem State.setCh_reads (s : State) (c : Ch) (x : Channel) : (s.setCh c x).reads = s.reads := by cases c <;> rfl
@[simp] theorem State.setCh_samples (s : State) (c : Ch) (x : Channel) : (s.setCh c x).samples = s.samples := by cases c <;> rfl
@[simp] theorem State.setCh_draws (s : State) (c : Ch) (x : Channel) : (s.setCh c x).draws = s.draws := by cases c <;> rfl

@[simp] theorem State.ch_c1 (s : State) : s.ch .c1 = s.ch1 := rfl
@[simp] theorem State.ch_c2 (s : State) : s.ch .c2 = s.ch2 := rfl
@[simp] theorem State.ch_c3 (s : State) : s.ch .c3 = s.ch3 := rfl
@[simp] theorem State.ch_c4 (s : State) : s.ch .c4 = s.ch4 := rfl
@[simp] theorem State.setCh_c1 (s : State) (x : Channel) : s.setCh .c1 x = { s with ch1 := x } := rfl
@[simp] theorem State.setCh_c2 (s : State) (x : Channel) : s.setCh .c2 x = { s with ch2 := x } := rfl
@[simp] theorem State.setCh_c3 (s : State) (x : Channel) : s.setCh .c3 x = { s with ch3 := x } := rfl
@[simp] theorem State.setCh_c4 (s : State) (x : Channel) : s.setCh .c4 x = { s with ch4 := x } := rfl

theorem State.ch_setCh_same (s : State) (c : Ch) (x : Channel) : (s.setCh c x).ch c = x := by cases c <;> rfl

theorem State.ch_setCh_other (s : State) (c d : Ch) (x : Channel) (h : d ≠ c) : (s.setCh c x).ch d = s.ch d := by
  cases c <;> cases d <;> first | rfl | exact absurd rfl h

/-! ### mix -/

@[simp] theorem State.mix_ch1 (n : Nat) (s : State) : (s.mix n).ch1 = s.ch1 := by unfold State.mix; dsimp only; split <;> rfl
@[simp] theorem State.mix_ch2 (n : Nat) (s : State) : (s.mix n).ch2 = s.ch2 := by unfold State.mix; dsimp only; split <;> rfl
@[simp] theorem State.mix_ch3 (n : Nat) (s : State) : (s.mix n).ch3 = s.ch3 := by unfold State.mix; dsimp only; split <;> rfl
@[simp] theorem State.mix_ch4 (n : Nat) (s : State) : (s.mix n).ch4 = s.ch4 := by unfold State.mix; dsimp only; split <;> rfl
@[simp] theorem State.mix_nr50 (n : Nat) (s : State) : (s.mix n).nr50 = s.nr50 := by unfold State.mix; dsimp only; split <;> rfl
@[simp] theorem State.mix_nr51 (n : Nat) (s : State) : (s.mix n).nr51 = s.nr51 := by unfold State.mix; dsimp only; split <;> rfl
@[simp] theorem State.mix_power (n : Nat) (s : State) : (s.mix n).power = s.power := by unfold State.mix; dsimp only; split <;> rfl
@[simp] theorem State.mix_mem (n : Nat) (s : State) : (s.mix n).mem = s.mem := by unfold State.mix; dsimp only; split <;> rfl
@[simp] theorem State.mix_fsStep (n : Nat) (s : State) : (s.mix n).fsStep = s.fsStep := by unfold State.mix; dsimp only; split <;> rfl
@[simp] theorem State.mix_fsEdgeStep (n : Nat) (s : State) : (s.mix n).fsEdgeStep = s.fsEdgeStep := by unfold State.mix; dsimp only; split <;> rfl
@[simp] theorem State.mix_divSnap (n : Nat) (s : State) : (s.mix n).divSnap = s.divSnap := by unfold State.mix; dsimp only; split <;> rfl
@[simp] theorem State.mix_init (n : Nat) (s : State) : (s.mix n).init = s.init := by unfold State.mix; dsimp only; split <;> rfl
@[simp] theorem State.mix_params (n : Nat) (s : State) : (s.mix n).params = s.params := by unfold State.mix; dsimp only; split <;> rfl
@[simp] theorem State.mix_pending (n : Nat) (s : State) : (s.mix n).pending = s.pending := by unfold State.mix; dsimp only; split <;> rfl
@[simp] theorem State.mix_reads (n : Nat) (s : State) : (s.mix n).reads = s.reads := by unfold State.mix; dsimp only; split <;> rfl
@[simp] theorem State.mix_draws (n : Nat) (s : State) : (s.mix n).draws = s.draws := by unfold State.mix; dsimp only; split <;> rfl
@[simp] theorem State.mix_rs (n : Nat) (s : State) : (s.mix n).rs = (s.rs.mixStep s.params n).1 := by
  unfold State.mix; dsimp only; split <;> rfl

/-! ### fsClock -/

@[simp] theorem State.fsClock_ch1 (d : Bool) (v : Byte) (s : State) :
    (s.fsClock d v).ch1 = { s.ch1 with edge := s.ch1.edge || fsEdgeSeen s.params d s.divSnap v } := by
  unfold State.fsClock; dsimp only; split <;> simp_all [State.fsEdge]
@[simp] theorem State.fsClock_ch2 (d : Bool) (v : Byte) (s : State) :
    (s.fsClock d v).ch2 = { s.ch2 with edge := s.ch2.edge || fsEdgeSeen s.params d s.divSnap v } := by
  unfold State.fsClock; dsimp only; split <;> simp_all [State.fsEdge]
@[simp] theorem State.fsClock_ch3 (d : Bool) (v : Byte) (s : State) :
    (s.fsClock d v).ch3 = { s.ch3 with edge := s.ch3.edge || fsEdgeSeen s.params d s.divSnap v } := by
  unfold State.fsClock; dsimp only; split <;> simp_all [State.fsEdge]
@[simp] theorem State.fsClock_ch4 (d : Bool) (v : Byte) (s : State) :
    (s.fsClock d v).ch4 = { s.ch4 with edge := s.ch4.edge || fsEdgeSeen s.params d s.divSnap v } := by
  unfold State.fsClock; dsimp only; split <;> simp_all [State.fsEdge]
@[simp] theorem State.fsClock_nr50 (d : Bool) (v : Byte) (s : State) : (s.fsClock d v).nr50 = s.nr50 := by
  unfold State.fsClock; dsimp only; split <;> rfl
@[simp] theorem State.fsClock_nr51 (d : Bool) (v : Byte) (s : State) : (s.fsClock d v).nr51 = s.nr51 := by
  unfold State.fsClock; dsimp only; split <;> rfl
@[simp] theorem State.fsClock_power (d : Bool) (v : Byte) (s : State) : (s.fsClock d v).power = s.power := by
  unfold State.fsClock; dsimp only; split <;> rfl
@[simp] theorem State.fsClock_mem (d : Bool) (v : Byte) (s : State) : (s.fsClock d v).mem = s.mem := by
  unfold State.fsClock; dsimp only; split <;> rfl
@[simp] theorem State.fsClock_fsStep (d : Bool) (v : Byte) (s : State) :
    (s.fsClock d v).fsStep = if fsEdgeSeen s.params d s.divSnap v then s.fsStep + 1 else s.fsStep := by
  unfold State.fsClock; dsimp only; split <;> rfl
@[simp] theorem State.fsClock_fsEdgeStep (d : Bool) (v : Byte) (s : State) :
    (s.fsClock d v).fsEdgeStep = if fsEdgeSeen s.params d s.divSnap v then s.nextStep else s.fsEdgeStep := by
  unfold State.fsClock; dsimp only; split <;> rfl
@[simp] theorem State.fsClock_divSnap (d : Bool) (v : Byte) (s : State) : (s.fsClock d v).divSnap = v := by
  unfold State.fsClock; dsimp only; split <;> rfl
@[simp] theorem State.fsClock_rs (d : Bool) (v : Byte) (s : State) : (s.fsClock d v).rs = s.rs := by
  unfold State.fsClock; dsimp only; split <;> rfl
@[simp] theorem State.fsClock_init (d : Bool) (v : Byte) (s : State) : (s.fsClock d v).init = s.init := by
  unfold State.fsClock; dsimp only; split <;> rfl
@[simp] theorem State.fsClock_refusals (d : Bool) (v : Byte) (s : State) : (s.fsClock d v).refusals = s.refusals := by
  unfold State.fsClock; dsimp only; split <;> rfl
@[simp] theorem State.fsClock_params (d : Bool) (v : Byte) (s : State) : (s.fsClock d v).params = s.params := by
  unfold State.fsClock; dsimp only; split <;> rfl
@[simp] theorem State.fsClock_pending (d : Bool) (v : Byte) (s : State) : (s.fsClock d v).pending = s.pending := by
  unfold State.fsClock; dsimp only; split <;> rfl
@[simp] theorem State.fsClock_sinkPlan (d : Bool) (v : Byte) (s : State) : (s.fsClock d v).sinkPlan = s.sinkPlan := by
  unfold State.fsClock; dsimp only; split <;> rfl
@[simp] theorem State.fsClock_result (d : Bool) (v : Byte) (s : State) : (s.fsClock d v).result = s.result := by
  unfold State.fsClock; dsimp only; split <;> rfl
@[simp] theorem State.fsClock_reads (d : Bool) (v : Byte) (s : State) : (s.fsClock d v).reads = s.reads := by
  unfold State.fsClock; dsimp only; split <;> rfl
@[simp] theorem State.fsClock_samples (d : Bool) (v : Byte) (s : State) : (s.fsClock d v).samples = s.samples := by
  unfold State.fsClock; dsimp only; split <;> rfl
@[simp] theorem State.fsClock_draws (d : Bool) (v : Byte) (s : State) : (s.fsClock d v).draws = s.draws := by
  unfold State.fsClock; dsimp only; split <;> rfl

/-! ### advance -/

@[simp] theorem State.advance_ch1 (d : Bool) (v : Byte) (s : State) :
    (s.advance d v).ch1 = ({ s.ch1 with edge := s.ch1.edge || fsEdgeSeen s.params d s.divSnap v }.tickPulse true s.params.duty (s.fsClock d v).fsEdgeStep).1 := by simp [State.advance]
@[simp] theorem State.advance_ch2 (d : Bool) (v : Byte) (s : State) :
    (s.advance d v).ch2 = ({ s.ch2 with edge := s.ch2.edge || fsEdgeSeen s.params d s.divSnap v }.tickPulse false s.params.duty (s.fsClock d v).fsEdgeStep).1 := by simp [State.advance]
@[simp] theorem State.advance_ch3 (d : Bool) (v : Byte) (s : State) :
    (s.advance d v).ch3 = ({ s.ch3 with edge := s.ch3.edge || fsEdgeSeen s.params d s.divSnap v }.tickWaveTwice s.mem (s.fsClock d v).fsEdgeStep).1 := by simp [State.advance]
@[simp] theorem State.advance_ch4 (d : Bool) (v : Byte) (s : State) :
    (s.advance d v).ch4 = ({ s.ch4 with edge := s.ch4.edge || fsEdgeSeen s.params d s.divSnap v }.tickNoise (s.fsClock d v).fsEdgeStep).1 := by simp [State.advance]
@[simp] theorem State.advance_nr50 (d : Bool) (v : Byte) (s : State) :
    (s.advance d v).nr50 = s.nr50 := by simp [State.advance]
@[simp] theorem State.advance_nr51 (d : Bool) (v : Byte) (s : State) :
    (s.advance d v).nr51 = s.nr51 := by simp [State.advance]
@[simp] theorem State.advance_power (d : Bool) (v : Byte) (s : State) :
    (s.advance d v).power = s.power := by simp [State.advance]
@[simp] theorem State.advance_mem (d : Bool) (v : Byte) (s : State) :
    (s.advance d v).mem = s.mem := by simp [State.advance]
@[simp] theorem State.advance_fsStep (d : Bool) (v : Byte) (s : State) :
    (s.advance d v).fsStep = (s.fsClock d v).fsStep := by simp [State.advance]
@[simp] theorem State.advance_fsEdgeStep (d : Bool) (v : Byte) (s : State) :
    (s.advance d v).fsEdgeStep = (s.fsClock d v).fsEdgeStep := by simp [State.advance]
@[simp] theorem State.advance_divSnap (d : Bool) (v : Byte) (s : State) :
    (s.advance d v).divSnap = (s.fsClock d v).divSnap := by simp [State.advance]
@[simp] theorem State.advance_init (d : Bool) (v : Byte) (s : State) :
    (s.advance d v).init = s.init := by simp [State.advance]
@[simp] theorem State.advance_params (d : Bool) (v : Byte) (s : State) :
    (s.advance d v).params = s.params := by simp [State.advance]
@[simp] theorem State.advance_pending (d : Bool) (v : Byte) (s : State) :
    (s.advance d v).pending = s.pending := by simp [State.advance]
@[simp] theorem State.advance_reads (d : Bool) (v : Byte) (s : State) :
    (s.advance d v).reads = s.reads := by simp [State.advance]
@[simp] theorem State.advance_draws (d : Bool) (v : Byte) (s : State) :
    (s.advance d v).draws = s.draws := by simp [State.advance]

end Sys2Proof.Machine
end

