-- ==== Sys2Proof/Laws/Channels.lean ====
section
/-! SUPPORT. What each step of a channel tick can do, said once: the cases of every step, the fields it can touch, the range of the
outputs, and the whole of a tick. -/

namespace Sys2Proof.Machine

/-! ### The frame of each step: the record afterwards differs from the record before in the named fields only -/

theorem Channel.countLength_frame (x : Channel) : x.countLength = { x with len := x.len - 1, on := x.countLength.on } := rfl

theorem Channel.lengthClock_frame (clk : Bool) (x : Channel) :
    x.lengthClock clk = { x with len := (x.lengthClock clk).len, on := (x.lengthClock clk).on } := by
  unfold Channel.lengthClock; split <;> rfl

theorem Channel.latchEnvelope_frame (x : Channel) : x.latchEnvelope =
    { x with envVol := x.initVol, envDir := x.cfgDir, envPace := x.cfgPace, envCnt := x.cfgPace } := rfl

theorem Channel.envelope_frame (x : Channel) :
    x.envelope = { x with envCnt := x.envelope.envCnt, envVol := x.envelope.envVol } := by
  unfold Channel.envelope; split_ifs <;> rfl

theorem Channel.envelopeClock_frame (clk : Bool) (x : Channel) :
    x.envelopeClock clk = { x with envCnt := (x.envelopeClock clk).envCnt, envVol := (x.envelopeClock clk).envVol } := by
  unfold Channel.envelopeClock
  split
  · exact x.envelope_frame
  · rfl

theorem Channel.sweepCompute_frame (x : Channel) :
    x.sweepCompute = { x with
      reg3 := x.sweepCompute.reg3
      reg4 := x.sweepCompute.reg4
      on := x.sweepCompute.on
      swCnt := x.sweepCompute.swCnt
      shadow := x.sweepCompute.shadow } := by
  unfold Channel.sweepCompute; split_ifs <;> rfl

theorem Channel.sweep_frame (x : Channel) :
    x.sweep = { x with
      reg3 := x.sweep.reg3
      reg4 := x.sweep.reg4
      on := x.sweep.on
      swCnt := x.sweep.swCnt
      shadow := x.sweep.shadow } := by
  unfold Channel.sweep
  split_ifs
  · rfl
  · exact x.sweepCompute_frame
  · rfl

theorem Channel.pulseCount_frame (x : Channel) :
    x.pulseCount = { x with pcnt := x.pulseCount.pcnt, idx := x.pulseCount.idx } := by
  unfold Channel.pulseCount; split_ifs <;> rfl

theorem Channel.waveCount_frame (x : Channel) : x.waveCount = { x with pcnt := x.waveCount.pcnt, idx := x.waveCount.idx } := by
  unfold Channel.waveCount; split_ifs <;> rfl

theorem Channel.noiseCount_frame (x : Channel) : x.noiseCount = { x with lfsr := x.noiseCount.lfsr, ncnt := x.noiseCount.ncnt } := by
  unfold Channel.noiseCount; split_ifs <;> rfl

/-! ### The cases of each step -/

/-- The length clock counts an enabled counter above 0, or does nothing. -/
theorem Channel.lengthClock_cases (clk : Bool) (x : Channel) :
    (clk = true ∧ x.lenEn = true ∧ 0 < x.len ∧ x.lengthClock clk = x.countLength) ∨
      ((clk = false ∨ x.lenEn = false ∨ x.len = 0) ∧ x.lengthClock clk = x) := by
  cases clk <;> cases h : x.lenEn <;> rcases Nat.eq_zero_or_pos x.len with hl | hl <;> simp [Channel.lengthClock, h, hl]

/-- The length clock never raises the on flag. -/
theorem Channel.lengthClock_on (clk : Bool) (x : Channel) (h : (x.lengthClock clk).on = true) : x.on = true := by
  obtain ⟨_, _, _, e⟩ | ⟨_, e⟩ := x.lengthClock_cases clk <;> rw [e] at h
  · simp only [Channel.countLength] at h
    split at h
    · exact absurd h (by simp)
    · exact h
  · exact h

theorem Channel.lengthClock_len_le (clk : Bool) (x : Channel) : (x.lengthClock clk).len ≤ x.len := by
  obtain ⟨_, _, _, e⟩ | ⟨_, e⟩ := x.lengthClock_cases clk <;> rw [e]
  exact Nat.sub_le _ _

/-- A volume step moves the volume by at most one and stays within 0..15 (R228). -/
theorem stepVolume_toNat (up : Bool) (v : BitVec 4) :
    (stepVolume up v).toNat = if up then min (v.toNat + 1) 15 else v.toNat - 1 := by
  revert up v; decide

theorem decPace_toNat (n : BitVec 3) : (decPace n).toNat = n.toNat - 1 := by revert n; decide

/-- The target of a sweep computation is at most 0x7FF (R227). -/
theorem Channel.sweepTarget_le (x : Channel) : x.sweepTarget ≤ 0x7FF := by
  unfold Channel.sweepTarget; exact Nat.min_le_right _ _

/-- A sweep computation turns the channel off on saturation and never turns it on. -/
theorem Channel.sweepCompute_cases (x : Channel) :
    (x.sweepTarget = 0x7FF ∧ x.sweepCompute = { x with swCnt := x.sweepPace, on := false }) ∨
      (x.sweepTarget < 0x7FF ∧ x.sweepCompute =
        { x.setPeriod (BitVec.ofNat 11 x.sweepTarget) with swCnt := x.sweepPace, shadow := BitVec.ofNat 11 x.sweepTarget }) := by
  have := x.sweepTarget_le
  unfold Channel.sweepCompute
  split
  · exact .inl ⟨by omega, rfl⟩
  · exact .inr ⟨by omega, rfl⟩

theorem Channel.sweep_cases (x : Channel) :
    (x.sweepPace = 0 ∧ x.sweep = x) ∨ (x.sweepPace ≠ 0 ∧ x.swCnt.toNat ≤ 1 ∧ x.sweep = x.sweepCompute) ∨
      (x.sweepPace ≠ 0 ∧ 2 ≤ x.swCnt.toNat ∧ x.sweep = { x with swCnt := decPace x.swCnt }) := by
  have hz : decPace x.swCnt = 0 ↔ x.swCnt.toNat ≤ 1 := by
    generalize x.swCnt = n
    revert n; decide
  by_cases hp : x.sweepPace = 0
  · exact .inl ⟨hp, by simp [Channel.sweep, hp]⟩
  · by_cases hc : x.swCnt.toNat ≤ 1
    · exact .inr (.inl ⟨hp, hc, by rw [Channel.sweep, if_neg hp, if_pos (hz.2 hc)]⟩)
    · exact .inr (.inr ⟨hp, by omega, by rw [Channel.sweep, if_neg hp, if_neg fun h => hc (hz.1 h)]⟩)

/-- The envelope holds, counts, or steps the volume and reloads (R228). -/
theorem Channel.envelope_cases (x : Channel) :
    (x.envPace = 0 ∧ x.envelope = x) ∨
      (x.envPace ≠ 0 ∧ x.envCnt.toNat ≤ 1 ∧ x.envelope = { x with envCnt := x.envPace, envVol := stepVolume x.envDir x.envVol }) ∨
      (x.envPace ≠ 0 ∧ 2 ≤ x.envCnt.toNat ∧ x.envelope = { x with envCnt := decPace x.envCnt }) := by
  have hz : decPace x.envCnt = 0 ↔ x.envCnt.toNat ≤ 1 := by
    generalize x.envCnt = n
    revert n; decide
  by_cases hp : x.envPace = 0
  · exact .inl ⟨hp, by simp [Channel.envelope, hp]⟩
  · by_cases hc : x.envCnt.toNat ≤ 1
    · exact .inr (.inl ⟨hp, hc, by rw [Channel.envelope, if_neg hp, if_pos (hz.2 hc)]⟩)
    · exact .inr (.inr ⟨hp, by omega, by rw [Channel.envelope, if_neg hp, if_neg fun h => hc (hz.1 h)]⟩)

/-! ### Outputs are 0..15 (spec/43_pulse_channels.md R230, spec/44_wave_channel.md R254, spec/45_noise_channel.md R276) -/

theorem Channel.pulseOutput_le (t : DutyTable) (x : Channel) : x.pulseOutput t ≤ 15 := by
  unfold Channel.pulseOutput
  split <;> omega

theorem Channel.noiseOutput_le (x : Channel) : x.noiseOutput ≤ 15 := by
  unfold Channel.noiseOutput
  split <;> omega

theorem Channel.waveOutput_le (mem : List Host.Cell) (x : Channel) : x.waveOutput mem ≤ 15 := by
  unfold Channel.waveOutput
  split
  · exact Nat.zero_le _
  · exact (Nat.div_le_self _ _).trans (by omega)

theorem Channel.pulsePlay_le (t : DutyTable) (sw env : Bool) (x : Channel) : (x.pulsePlay t sw env).2 ≤ 15 := by
  simp only [Channel.pulsePlay]
  split
  · exact Nat.zero_le _
  · generalize (if sw then x.sweep else x) = y
    split
    · exact Nat.zero_le _
    · exact Channel.pulseOutput_le _ _

theorem Channel.tickPulse_le (sweeps : Bool) (t : DutyTable) (step : BitVec 3) (x : Channel) :
    (x.tickPulse sweeps t step).2 ≤ 15 := by
  simp only [Channel.tickPulse]
  split
  · exact Nat.zero_le _
  · exact Channel.pulsePlay_le _ _ _ _

theorem Channel.tickWave_le (mem : List Host.Cell) (step : BitVec 3) (x : Channel) : (x.tickWave mem step).2 ≤ 15 := by
  simp only [Channel.tickWave, Channel.wavePlay]
  split
  · exact Nat.zero_le _
  · split <;> (split <;> first | exact Nat.zero_le _ | exact Channel.waveOutput_le _ _)

theorem Channel.tickWaveTwice_le (mem : List Host.Cell) (step : BitVec 3) (x : Channel) :
    (x.tickWaveTwice mem step).2 ≤ 15 := by
  have h1 := x.tickWave_le mem step
  have h2 := (x.tickWave mem step).1.tickWave_le mem step
  simp only [Channel.tickWaveTwice]
  omega

theorem Channel.tickNoise_le (step : BitVec 3) (x : Channel) : (x.tickNoise step).2 ≤ 15 := by
  simp only [Channel.tickNoise, Channel.noisePlay]
  split
  · exact Nat.zero_le _
  · split <;> (split <;> first | exact Nat.zero_le _ | exact Channel.noiseOutput_le _)

/-- The four outputs of an ADVANCE sum to at most 60 (spec/46_mixer_resampler.md R290). -/
theorem State.tickChannels_le (s : State) : s.tickChannels.2 ≤ 60 := by
  have h1 := s.ch1.tickPulse_le true s.params.duty s.fsEdgeStep
  have h2 := s.ch2.tickPulse_le false s.params.duty s.fsEdgeStep
  have h3 := s.ch3.tickWaveTwice_le s.mem s.fsEdgeStep
  have h4 := s.ch4.tickNoise_le s.fsEdgeStep
  simp only [State.tickChannels]
  omega

/-! ### A tick as a whole: the DAC gate, then the trigger, the length clock and the on gate -/

/-- The record after the trigger step of a pulse tick (R221). -/
def Channel.afterPulseTrigger (sweeps : Bool) (x : Channel) : Channel :=
  if x.takeEdge.trig then x.takeEdge.pulseTrigger sweeps else x.takeEdge

theorem Channel.tickPulse_of_dacOff (sweeps : Bool) (t : DutyTable) (step : BitVec 3) (x : Channel) (h : x.volDac = false) :
    x.tickPulse sweeps t step = ({ x with edge := false, on := false }, 0) := by
  have h' : x.takeEdge.volDac = false := h
  simp only [Channel.tickPulse, h', Bool.not_false, if_true]
  rfl

theorem Channel.tickPulse_of_dacOn (sweeps : Bool) (t : DutyTable) (step : BitVec 3) (x : Channel) (h : x.volDac = true) :
    x.tickPulse sweeps t step =
      ((x.afterPulseTrigger sweeps).lengthClock (x.edge && lenClk step)).pulsePlay t
        (sweeps && ((x.edge && swClk step) || x.trig)) (x.edge && envClk step) := by
  have h' : x.takeEdge.volDac = true := h
  simp only [Channel.tickPulse, h', Bool.not_true, Bool.false_eq_true, if_false]
  rfl

/-- The on gate and the steps behind it (R223, R224): a channel that is off stays as it is with output 0, a channel the sweep turns off
keeps what the sweep left, and a playing channel runs the envelope, the period counter and the output. -/
theorem Channel.pulsePlay_cases (t : DutyTable) (sw env : Bool) (x : Channel) :
    (x.on = false ∧ x.pulsePlay t sw env = (x, 0)) ∨
      (x.on = true ∧ sw = true ∧ x.sweep.on = false ∧ x.pulsePlay t sw env = (x.sweep, 0)) ∨
      (x.on = true ∧ (if sw then x.sweep else x).on = true ∧
        x.pulsePlay t sw env = (if sw then x.sweep else x).pulseVoice t env) := by
  cases ho : x.on
  · exact .inl ⟨rfl, by simp [Channel.pulsePlay, ho]⟩
  · cases sw
    · exact .inr (.inr ⟨rfl, by simpa using ho, by simp [Channel.pulsePlay, ho]⟩)
    · cases hs : x.sweep.on
      · exact .inr (.inl ⟨rfl, rfl, rfl, by simp [Channel.pulsePlay, ho, hs]⟩)
      · exact .inr (.inr ⟨rfl, by simp [hs], by simp [Channel.pulsePlay, ho, hs]⟩)

theorem Channel.tickWave_of_dacOff (mem : List Host.Cell) (step : BitVec 3) (x : Channel) (h : x.waveDac = false) :
    x.tickWave mem step = ({ x with edge := false, on := false }, 0) := by
  have h' : x.takeEdge.waveDac = false := h
  simp only [Channel.tickWave, h', Bool.not_false, if_true]
  rfl

theorem Channel.tickWave_of_dacOn (mem : List Host.Cell) (step : BitVec 3) (x : Channel) (h : x.waveDac = true) :
    x.tickWave mem step = ((if x.trig then x.takeEdge.waveTrigger else x.takeEdge).lengthClock (x.edge && lenClk step)).wavePlay mem := by
  have h' : x.takeEdge.waveDac = true := h
  simp only [Channel.tickWave, h', Bool.not_true, Bool.false_eq_true, if_false]
  rfl

theorem Channel.tickNoise_of_dacOff (step : BitVec 3) (x : Channel) (h : x.volDac = false) :
    x.tickNoise step = ({ x with edge := false, on := false }, 0) := by
  have h' : x.takeEdge.volDac = false := h
  simp only [Channel.tickNoise, h', Bool.not_false, if_true]
  rfl

theorem Channel.tickNoise_of_dacOn (step : BitVec 3) (x : Channel) (h : x.volDac = true) :
    x.tickNoise step = ((if x.trig then x.takeEdge.noiseTrigger else x.takeEdge).lengthClock (x.edge && lenClk step)).noisePlay
      (x.edge && envClk step) := by
  have h' : x.takeEdge.volDac = true := h
  simp only [Channel.tickNoise, h', Bool.not_true, Bool.false_eq_true, if_false]
  rfl

/-! ### The noise period (spec/45_noise_channel.md R271, R278) -/

/-- The reload of the noise countdown is at most 917504 (R278). -/
theorem Channel.noisePeriod_le (x : Channel) : 2 * x.noisePeriod ≤ 917504 := by
  have hs : x.noiseShift ≤ 15 := by
    have := (x.reg3.extractLsb' 4 4).isLt
    unfold Channel.noiseShift; omega
  have hd : x.noiseDiv ≤ 7 := by
    have := (x.reg3.extractLsb' 0 3).isLt
    unfold Channel.noiseDiv; omega
  have hp : 2 ^ (x.noiseShift + 1) ≤ 65536 := Nat.pow_le_pow_right (n := 2) (by decide) (by omega : x.noiseShift + 1 ≤ 16)
  unfold Channel.noisePeriod
  split
  · omega
  · have := Nat.mul_le_mul hp hd
    omega

theorem Channel.noisePeriod_pos (x : Channel) : 1 ≤ x.noisePeriod := by
  have hp : 1 ≤ 2 ^ x.noiseShift := Nat.one_le_two_pow
  unfold Channel.noisePeriod
  split
  · rw [Nat.pow_succ]; omega
  · rw [Nat.pow_succ]; exact Nat.mul_pos (by omega) (by omega)

end Sys2Proof.Machine
end

