-- ==== Sys2Proof/Laws/Ops.lean ====
section
/-! SUPPORT. What each shared operation can do, said once: the shapes of the operations, the step, and the host's queue. -/

namespace Sys2Proof.Machine

/-! ### admitOp, readOp, writeOp, gatedWriteOp -/

/-- An admitted operation always has a next state: its effect, or before RESET a recorded refusal. -/
theorem admitOp_next_iff (f : State → State) (s t : State) :
    admitOp f s = .next t ↔ t = if s.init then f s else s.refuse .beforeReset := by
  cases h : s.init <;> simp only [admitOp, h, if_true, Bool.false_eq_true, if_false, Host.Outcome.next.injEq] <;> exact eq_comm

theorem admitOp_of_init (f : State → State) (s : State) (h : s.init = true) : admitOp f s = .next (f s) := by
  simp [admitOp, h]

theorem admitOp_before_reset (f : State → State) (s : State) (h : s.init = false) :
    admitOp f s = .next (s.refuse .beforeReset) := by
  simp [admitOp, h]

theorem readOp_of_init (f : State → Byte) (s : State) (h : s.init = true) : readOp f s = .next (s.answerRead (f s)) :=
  admitOp_of_init _ s h

theorem writeOp_of_init (f : State → State) (s : State) (h : s.init = true) : writeOp f s = .next (f s).answerWrite :=
  admitOp_of_init _ s h

theorem gatedWriteOp_of_on (f : State → State) (s : State) (h : s.init = true) (hp : s.power = true) :
    gatedWriteOp f s = .next (f s).answerWrite := by
  simp [gatedWriteOp, writeOp_of_init, h, hp]

theorem gatedWriteOp_of_off (f : State → State) (s : State) (h : s.init = true) (hp : s.power = false) :
    gatedWriteOp f s = .next s.answerWrite := by
  simp [gatedWriteOp, writeOp_of_init, h, hp]

theorem readOp_next_iff (f : State → Byte) (s t : State) :
    readOp f s = .next t ↔ t = if s.init then s.answerRead (f s) else s.refuse .beforeReset :=
  admitOp_next_iff _ s t

theorem writeOp_next_iff (f : State → State) (s t : State) :
    writeOp f s = .next t ↔ t = if s.init then (f s).answerWrite else s.refuse .beforeReset :=
  admitOp_next_iff _ s t

/-- The three outcomes of a power-gated WRITE. -/
theorem gatedWriteOp_next_cases (f : State → State) (s t : State) (h : gatedWriteOp f s = .next t) :
    (s.init = false ∧ t = s.refuse .beforeReset) ∨ (s.init = true ∧ s.power = false ∧ t = s.answerWrite) ∨
      (s.init = true ∧ s.power = true ∧ t = (f s).answerWrite) := by
  rw [gatedWriteOp, writeOp_next_iff] at h
  cases hi : s.init <;> cases hp : s.power <;> simp_all

/-! ### The step -/

/-- A step in which the host issues nothing. -/
theorem step_of_nil (s : State) (h : s.pending = []) : step s = .next s := by
  simp [step, State.takeWord, h]

/-- A step that runs an operation. -/
theorem step_of_decode (s : State) (w : TWord) (rest : List TWord) (i : Instr) (h : s.pending = w :: rest)
    (hd : decode w = .ok i) : step s = exec i { s with pending := rest } := by
  simp [step, State.takeWord, h, hd]

/-- A step that refuses a word with no row. -/
theorem step_of_error (s : State) (w : TWord) (rest : List TWord) (e : DecodeError) (h : s.pending = w :: rest)
    (hd : decode w = .error e) : step s = .next (({ s with pending := rest } : State).refuseWord e) := by
  simp [step, State.takeWord, h, hd]

/-- Everything a step can do: idle, run the decoded operation, or record the refusal of a word with no row. -/
theorem step_cases (s : State) :
    step s = .next s ∨
      (∃ w rest i, s.pending = w :: rest ∧ decode w = .ok i ∧ step s = exec i { s with pending := rest }) ∨
      (∃ w rest e, s.pending = w :: rest ∧ decode w = .error e ∧
        step s = .next (({ s with pending := rest } : State).refuseWord e)) := by
  cases hp : s.pending with
  | nil => exact .inl (step_of_nil s hp)
  | cons w rest =>
    cases hd : decode w with
    | ok i => exact .inr (.inl ⟨w, rest, i, rfl, hd, step_of_decode s w rest i hp hd⟩)
    | error e => exact .inr (.inr ⟨w, rest, e, rfl, hd, step_of_error s w rest e hp hd⟩)

/-- A placed word is the one the next step takes. -/
theorem takeWord_pushWord (w : TWord) (s : State) : (s.pushWord w).takeWord = some (w, s) := rfl

end Sys2Proof.Machine
end

