-- ==== Sys2Proof/Laws/Dispatch.lean ====
section
/-! SUPPORT. The shapes of the arms of `exec`, said once: a claim over all operations goes through these and not through the arms. -/

namespace Sys2Proof.Machine

/-- Every READ is a `readOp`. -/
theorem exec_of_isRead (i : Instr) (h : i.isRead = true) : ∃ f, ∀ s, exec i s = readOp f s := by
  cases i <;> first | exact ⟨_, fun _ => rfl⟩ | exact absurd h (by simp [Instr.isRead])

/-- Every power-gated WRITE is a `gatedWriteOp`. -/
theorem exec_of_isGatedWrite (i : Instr) (h : i.isGatedWrite = true) : ∃ f, ∀ s, exec i s = gatedWriteOp f s := by
  cases i <;> first | exact ⟨_, fun _ => rfl⟩ | exact absurd h (by simp [Instr.isGatedWrite])

/-- The six shapes of an operation. -/
theorem instr_cases (i : Instr) :
    i.isRead = true ∨ i.isGatedWrite = true ∨ (∃ v, i = .wrNr52 v) ∨ (∃ k v, i = .wrWave k v) ∨
      (∃ dsm div, i = .advance dsm div) ∨ i = .reset := by
  cases i <;> simp [Instr.isRead, Instr.isGatedWrite]

/-- Every operation but RESET is an admitted effect. -/
theorem exec_is_admitOp (i : Instr) (h : i ≠ .reset) : ∃ f, ∀ s, exec i s = admitOp f s := by
  obtain h1 | h1 | ⟨v, rfl⟩ | ⟨k, v, rfl⟩ | ⟨dsm, div, rfl⟩ | rfl := instr_cases i
  · obtain ⟨f, hf⟩ := exec_of_isRead i h1; exact ⟨_, hf⟩
  · obtain ⟨f, hf⟩ := exec_of_isGatedWrite i h1; exact ⟨_, hf⟩
  · exact ⟨_, fun _ => rfl⟩
  · exact ⟨_, fun _ => rfl⟩
  · exact ⟨_, fun _ => rfl⟩
  · exact absurd rfl h

/-- The six effects of a completed operation: reads answer, gated writes have their effect or none, and so on. -/
theorem exec_next_cases (i : Instr) (s t : State) (h : exec i s = .next t) :
    (i = .reset ∧ t = s.resetApu) ∨
    (s.init = false ∧ i ≠ .reset ∧ t = s.refuse .beforeReset) ∨
    (s.init = true ∧ i.isRead = true ∧ ∃ b, t = s.answerRead b) ∨
    (s.init = true ∧ i.isGatedWrite = true ∧ s.power = false ∧ t = s.answerWrite) ∨
    (s.init = true ∧ i.isGatedWrite = true ∧ s.power = true ∧ ∃ f : State → State, (∀ u, exec i u = gatedWriteOp f u) ∧
      t = (f s).answerWrite) ∨
    (s.init = true ∧ ∃ v, i = .wrNr52 v ∧ t = (s.writeNr52 v).answerWrite) ∨
    (s.init = true ∧ ∃ k v, i = .wrWave k v ∧ t = (s.storeWave k v).answerWrite) ∨
    (s.init = true ∧ ∃ dsm div, i = .advance dsm div ∧ t = s.advance dsm div) := by
  by_cases hr : i = .reset
  · subst hr
    exact .inl ⟨rfl, (Host.Outcome.next.inj h).symm⟩
  cases hi : s.init
  · obtain ⟨f, hf⟩ := exec_is_admitOp i hr
    rw [hf, admitOp_before_reset _ s hi] at h
    exact .inr (.inl ⟨rfl, hr, (Host.Outcome.next.inj h).symm⟩)
  obtain h1 | h1 | ⟨v, rfl⟩ | ⟨k, v, rfl⟩ | ⟨dsm, div, rfl⟩ | h1 := instr_cases i
  · obtain ⟨f, hf⟩ := exec_of_isRead i h1
    rw [hf, readOp_of_init _ s hi] at h
    exact .inr (.inr (.inl ⟨rfl, h1, _, (Host.Outcome.next.inj h).symm⟩))
  · obtain ⟨f, hf⟩ := exec_of_isGatedWrite i h1
    rw [hf] at h
    obtain ⟨h0, _⟩ | ⟨_, hp, ht⟩ | ⟨_, hp, ht⟩ := gatedWriteOp_next_cases f s t h
    · simp [hi] at h0
    · exact .inr (.inr (.inr (.inl ⟨rfl, h1, hp, ht⟩)))
    · exact .inr (.inr (.inr (.inr (.inl ⟨rfl, h1, hp, f, hf, ht⟩))))
  · have e := (writeOp_of_init (State.writeNr52 v) s hi).symm.trans h
    exact .inr (.inr (.inr (.inr (.inr (.inl ⟨rfl, v, rfl, (Host.Outcome.next.inj e).symm⟩)))))
  · have e := (writeOp_of_init (State.storeWave k v) s hi).symm.trans h
    exact .inr (.inr (.inr (.inr (.inr (.inr (.inl ⟨rfl, k, v, rfl, (Host.Outcome.next.inj e).symm⟩))))))
  · have e := (admitOp_of_init (State.advance dsm div) s hi).symm.trans h
    exact .inr (.inr (.inr (.inr (.inr (.inr (.inr ⟨rfl, dsm, div, rfl, (Host.Outcome.next.inj e).symm⟩))))))
  · exact absurd h1 hr

end Sys2Proof.Machine
end

