-- ==== Sys2Proof/Laws/Encoding.lean ====
section
/-! SUPPORT. The fields of a packed transaction word, and the decoder by kind. -/

namespace Sys2Proof

theorem packWord_toNat (k : BitVec 2) (a : Addr) (d : Byte) :
    (packWord k a d).toNat = k.toNat * 2 ^ 24 + a.toNat * 2 ^ 8 + d.toNat := by
  have ha := a.isLt
  have hd := d.isLt
  unfold packWord
  rw [BitVec.toNat_append, BitVec.toNat_append, ← Nat.shiftLeft_add_eq_or_of_lt hd, ← Nat.shiftLeft_add_eq_or_of_lt ha]
  simp only [Nat.shiftLeft_eq]
  omega

theorem packWord_getLsbD (k : BitVec 2) (a : Addr) (d : Byte) (i : Nat) :
    (packWord k a d).getLsbD i =
      if i < 8 then d.getLsbD i else if i < 24 then a.getLsbD (i - 8) else k.getLsbD (i - 24) := by
  unfold packWord
  rw [BitVec.getLsbD_append, BitVec.getLsbD_append]
  by_cases h : i < 8 <;> by_cases h' : i < 24 <;> simp [h, h'] <;>
    first | omega | (split <;> first | rfl | omega)

theorem wordKind_packWord (k : BitVec 2) (a : Addr) (d : Byte) : wordKind (packWord k a d) = k := by
  apply BitVec.eq_of_toNat_eq
  have hk := k.isLt
  have ha := a.isLt
  have hd := d.isLt
  simp only [wordKind, BitVec.extractLsb'_toNat, packWord_toNat, Nat.shiftRight_eq_div_pow]
  omega

theorem wordAddr_packWord (k : BitVec 2) (a : Addr) (d : Byte) : wordAddr (packWord k a d) = a := by
  apply BitVec.eq_of_toNat_eq
  have hk := k.isLt
  have ha := a.isLt
  have hd := d.isLt
  simp only [wordAddr, BitVec.extractLsb'_toNat, packWord_toNat, Nat.shiftRight_eq_div_pow]
  omega

theorem wordData_packWord (k : BitVec 2) (a : Addr) (d : Byte) : wordData (packWord k a d) = d := by
  apply BitVec.eq_of_toNat_eq
  have hk := k.isLt
  have ha := a.isLt
  have hd := d.isLt
  simp only [wordData, BitVec.extractLsb'_toNat, packWord_toNat, Nat.shiftRight_eq_div_pow]
  omega

/-- Every word is its three fields packed. -/
theorem packWord_fields (t : TWord) : packWord (wordKind t) (wordAddr t) (wordData t) = t := by
  apply BitVec.eq_of_toNat_eq
  have ht := t.isLt
  simp only [wordKind, wordAddr, wordData, BitVec.extractLsb'_toNat, packWord_toNat, Nat.shiftRight_eq_div_pow]
  omega

/-- The decoder on a READ word. -/
theorem decode_read (a : Addr) (d : Byte) : decode (packWord 0 a d) = decodeRead a := by
  unfold decode
  rw [wordKind_packWord, wordAddr_packWord]
  rfl

/-- The decoder on a WRITE word. -/
theorem decode_write (a : Addr) (d : Byte) : decode (packWord 1 a d) = decodeWrite a d := by
  unfold decode
  rw [wordKind_packWord, wordAddr_packWord, wordData_packWord]
  rfl

/-- The decoder on an ADVANCE word. -/
theorem decode_advance (a : Addr) (d : Byte) : decode (packWord 2 a d) = decodeAdvance (packWord 2 a d) := by
  unfold decode
  rw [wordKind_packWord]
  rfl

/-- The decoder on a RESET word. -/
theorem decode_reset (a : Addr) (d : Byte) : decode (packWord 3 a d) = decodeReset (packWord 3 a d) := by
  unfold decode
  rw [wordKind_packWord]
  rfl

end Sys2Proof
end

