-- ==== Sys2Proof/Laws/Memory.lean ====
section
/-! SUPPORT. The laws of the memory: a read after a write, and the canonical form every operation keeps. -/

namespace Sys2Proof.Machine

theorem Memory.read_erase_same (m : List Host.Cell) (a : Nat) : Memory.read (Memory.erase m a) a = Memory.unlisted := by
  induction m with
  | nil => rfl
  | cons c m ih =>
    obtain ⟨a', b⟩ := c
    by_cases h : a' = a <;> simp [Memory.erase, Memory.read, h, ih]

theorem Memory.read_erase_other (m : List Host.Cell) (a x : Nat) (h : x ≠ a) :
    Memory.read (Memory.erase m a) x = Memory.read m x := by
  induction m with
  | nil => rfl
  | cons c m ih =>
    obtain ⟨a', b⟩ := c
    by_cases h' : a' = a
    · subst h'; simp [Memory.erase, Memory.read, ih, Ne.symm h]
    · simp [Memory.erase, Memory.read, h', ih]

/-- No entry stands at an address. -/
def Memory.absent (m : List Host.Cell) (a : Nat) : Prop := ∀ c ∈ m, c.1 ≠ a

theorem Memory.absent_erase (m : List Host.Cell) (a : Nat) : Memory.absent (Memory.erase m a) a := by
  induction m with
  | nil => simp [Memory.absent, Memory.erase]
  | cons c m ih =>
    obtain ⟨a', b⟩ := c
    by_cases h : a' = a
    · simpa [Memory.erase, h] using ih
    · intro c hc
      simp [Memory.erase, h] at hc
      rcases hc with rfl | hc
      · exact h
      · exact ih c hc

theorem Memory.read_insert_same (m : List Host.Cell) (a : Nat) (b : Byte) (h : Memory.absent m a) :
    Memory.read (Memory.insert m a b) a = b := by
  induction m with
  | nil => simp [Memory.insert, Memory.read]
  | cons c m ih =>
    obtain ⟨a', b'⟩ := c
    have ha : a' ≠ a := h (a', b') (by simp)
    have ih := ih (fun c hc => h c (by simp [hc]))
    by_cases hlt : a < a' <;> simp [Memory.insert, Memory.read, hlt, ha, ih]

theorem Memory.read_insert_other (m : List Host.Cell) (a x : Nat) (b : Byte) (h : x ≠ a) :
    Memory.read (Memory.insert m a b) x = Memory.read m x := by
  induction m with
  | nil => simp [Memory.insert, Memory.read, Ne.symm h]
  | cons c m ih =>
    obtain ⟨a', b'⟩ := c
    by_cases hlt : a < a' <;> simp [Memory.insert, Memory.read, hlt, ih, Ne.symm h]

/-- A read after a write of the same address gives the byte written. -/
theorem Memory.read_write_same (m : List Host.Cell) (a : Nat) (b : Byte) : Memory.read (Memory.write m a b) a = b := by
  unfold Memory.write
  split
  · rename_i h; rw [Memory.read_erase_same, h]
  · exact Memory.read_insert_same _ _ _ (Memory.absent_erase m a)

/-- A write leaves every other address alone. -/
theorem Memory.read_write_other (m : List Host.Cell) (a x : Nat) (b : Byte) (h : x ≠ a) :
    Memory.read (Memory.write m a b) x = Memory.read m x := by
  unfold Memory.write
  split
  · exact Memory.read_erase_other m a x h
  · rw [Memory.read_insert_other _ _ _ _ h, Memory.read_erase_other m a x h]

theorem Memory.wfFrom_mono (m : List Host.Cell) (lo lo' : Nat) (h : lo' ≤ lo) (hm : Memory.wfFrom lo m = true) :
    Memory.wfFrom lo' m = true := by
  cases m with
  | nil => rfl
  | cons c m =>
    obtain ⟨a, b⟩ := c
    simp [Memory.wfFrom] at hm ⊢
    exact ⟨⟨⟨by omega, hm.1.1.2⟩, hm.1.2⟩, hm.2⟩

theorem Memory.wfFrom_erase (m : List Host.Cell) (lo a : Nat) (hm : Memory.wfFrom lo m = true) :
    Memory.wfFrom lo (Memory.erase m a) = true := by
  induction m generalizing lo with
  | nil => rfl
  | cons c m ih =>
    obtain ⟨a', b⟩ := c
    have hm' := hm
    simp [Memory.wfFrom] at hm'
    by_cases h : a' = a
    · simp only [Memory.erase, h, if_true]
      exact Memory.wfFrom_mono _ (a' + 1) _ (by omega) (ih _ hm'.2)
    · simp only [Memory.erase, h, if_false, Memory.wfFrom, ih _ hm'.2]
      simp [hm'.1]

theorem Memory.wfFrom_insert (m : List Host.Cell) (lo a : Nat) (b : Byte) (hm : Memory.wfFrom lo m = true)
    (habs : Memory.absent m a) (hlo : lo ≤ a) (hhi : a < 0xFF40) (hb : b ≠ Memory.unlisted) :
    Memory.wfFrom lo (Memory.insert m a b) = true := by
  induction m generalizing lo with
  | nil => simp [Memory.insert, Memory.wfFrom, hlo, hhi, hb]
  | cons c m ih =>
    obtain ⟨a', b'⟩ := c
    have ha : a' ≠ a := habs (a', b') (by simp)
    have hm' := hm
    simp [Memory.wfFrom] at hm'
    by_cases hlt : a < a'
    · simp only [Memory.insert, hlt, if_true]
      simp [Memory.wfFrom, hlo, hhi, hb, hm'.1.1.2, hm'.1.2, hm'.2]
      omega
    · simp only [Memory.insert, hlt, if_false]
      have := ih (a' + 1) hm'.2 (fun c hc => habs c (by simp [hc])) (by omega)
      simp [Memory.wfFrom, hm'.1, this]

/-- A write of a wave RAM address keeps the canonical form. -/
theorem Memory.wf_write (m : List Host.Cell) (a : Nat) (b : Byte) (hm : Memory.wf m = true) (hlo : 0xFF30 ≤ a)
    (hhi : a < 0xFF40) : Memory.wf (Memory.write m a b) = true := by
  unfold Memory.write
  split
  · exact Memory.wfFrom_erase m _ a hm
  · rename_i hb
    exact Memory.wfFrom_insert _ _ _ _ (Memory.wfFrom_erase m _ a hm) (Memory.absent_erase m a) hlo hhi hb

theorem waveAddr_ge (k : BitVec 4) : 0xFF30 ≤ waveAddr k := by simp [waveAddr]

theorem waveAddr_lt (k : BitVec 4) : waveAddr k < 0xFF40 := by
  have := k.isLt
  simp only [waveAddr]; omega

/-- Storing a wave byte keeps the canonical form. -/
theorem State.storeWave_wf (s : State) (k : BitVec 4) (v : Byte) (h : Memory.wf s.mem = true) :
    Memory.wf (s.storeWave k v).mem = true :=
  Memory.wf_write _ _ _ h (waveAddr_ge k) (waveAddr_lt k)

theorem State.storeWave_waveByte (s : State) (k : BitVec 4) (v : Byte) : (s.storeWave k v).waveByte k = v :=
  Memory.read_write_same _ _ _

/-- The memory of the state after RESET has the canonical form. -/
theorem resetWith_mem_wf (p : Params) : Memory.wf (State.resetWith p).mem = true := rfl

/-- RESET leaves a canonical memory whatever stood there. -/
theorem State.resetApu_wf (s : State) : Memory.wf s.resetApu.mem = true := rfl

end Sys2Proof.Machine
end

