-- ==== Sys2Proof/Laws/Mixer.lean ====
section
/-! SUPPORT. What the mixer, the frame sequencer and ADVANCE as a whole can do, said once. -/

namespace Sys2Proof.Machine

/-! ### MIX_STEP (spec/46_mixer_resampler.md R292 to R294, R299) -/

/-- A mix step only accumulates, or emits the average and reloads. -/
theorem Resampler.mixStep_cases (p : Params) (sum : Nat) (r : Resampler) :
    (r.countdown - 1 ≠ 0 ∧ r.mixStep p sum =
      ({ r with acc := r.acc + p.mixScale * sum, count := r.count + 1, countdown := r.countdown - 1 }, none)) ∨
    (r.countdown - 1 = 0 ∧ r.mixStep p sum =
      ((r.accumulate p sum).reload p, some ((r.acc + p.mixScale * sum) / (r.count + 1)))) := by
  by_cases h : r.countdown - 1 = 0
  · exact .inr ⟨h, by simp [Resampler.mixStep, Resampler.accumulate, h]⟩
  · exact .inl ⟨h, by simp [Resampler.mixStep, Resampler.accumulate, h]⟩

theorem Resampler.reload_countdown (p : Params) (r : Resampler) :
    (r.reload p).countdown = if p.sampleHz ≤ r.rem + p.rm then p.q + 1 else p.q := by
  unfold Resampler.reload; split <;> rfl

theorem Resampler.reload_acc (p : Params) (r : Resampler) : (r.reload p).acc = 0 := by unfold Resampler.reload; split <;> rfl

theorem Resampler.reload_count (p : Params) (r : Resampler) : (r.reload p).count = 0 := by unfold Resampler.reload; split <;> rfl

/-- The reload keeps the remainder below `SAMPLE_HZ`. -/
theorem Resampler.reload_rem_lt (p : Params) (r : Resampler) (h : r.rem < p.sampleHz) : (r.reload p).rem < p.sampleHz := by
  have hm : p.rm < p.sampleHz := Nat.mod_lt _ (by omega)
  unfold Resampler.reload
  split
  · show r.rem + p.rm - p.sampleHz < p.sampleHz
    omega
  · show r.rem + p.rm < p.sampleHz
    omega

/-- What a mix step leaves of the state: the resampler, the result, and on an emission the samples, the refusals and the sink's plan. -/
theorem State.mix_frame (sum : Nat) (s : State) :
    s.mix sum = { s with
      rs := (s.rs.mixStep s.params sum).1
      result := .advanced ((s.rs.mixStep s.params sum).2.map fun x => (x, x))
      samples := s.samples ++ ((s.rs.mixStep s.params sum).2.map fun x => (x, x)).toList
      refusals := (s.mix sum).refusals
      sinkPlan := (s.mix sum).sinkPlan } := by
  unfold State.mix
  generalize s.rs.mixStep s.params sum = m
  obtain ⟨r, _ | x⟩ := m <;> simp [State.emit]

/-- A mix step with no emission. -/
theorem State.mix_of_none (sum : Nat) (s : State) (h : (s.rs.mixStep s.params sum).2 = none) :
    s.mix sum = { s with rs := (s.rs.mixStep s.params sum).1, result := .advanced none } := by
  simp only [State.mix, h]

/-- A mix step that emits `x`: what the sink issues is refused (assumption log 5). -/
theorem State.mix_of_some (sum : Nat) (s : State) (x : Nat) (h : (s.rs.mixStep s.params sum).2 = some x) :
    s.mix sum = ({ s with rs := (s.rs.mixStep s.params sum).1 } : State).emit (x, x) := by
  simp only [State.mix, h]

/-! ### FS_DETECT and FS_EDGE (spec/42_frame_sequencer.md R201, R203) -/

theorem State.fsClock_of_edge (dsm : Bool) (div : Byte) (s : State) (h : fsEdgeSeen s.params dsm s.divSnap div = true) :
    s.fsClock dsm div = ({ s with divSnap := div } : State).fsEdge := by
  simp [State.fsClock, h]

theorem State.fsClock_of_noEdge (dsm : Bool) (div : Byte) (s : State) (h : fsEdgeSeen s.params dsm s.divSnap div = false) :
    s.fsClock dsm div = { s with divSnap := div } := by
  simp [State.fsClock, h]

/-- What the frame sequencer touches: its own registers, the snapshot and the four edge flags. -/
theorem State.fsClock_frame (dsm : Bool) (div : Byte) (s : State) :
    s.fsClock dsm div = { s with
      divSnap := div
      fsStep := (s.fsClock dsm div).fsStep
      fsEdgeStep := (s.fsClock dsm div).fsEdgeStep
      ch1 := { s.ch1 with edge := (s.fsClock dsm div).ch1.edge }
      ch2 := { s.ch2 with edge := (s.fsClock dsm div).ch2.edge }
      ch3 := { s.ch3 with edge := (s.fsClock dsm div).ch3.edge }
      ch4 := { s.ch4 with edge := (s.fsClock dsm div).ch4.edge } } := by
  cases h : fsEdgeSeen s.params dsm s.divSnap div <;> simp [State.fsClock, State.fsEdge, h]

/-! ### ADVANCE (spec/42_frame_sequencer.md R205) -/

/-- What ADVANCE leaves alone. -/
theorem State.advance_frame (dsm : Bool) (div : Byte) (s : State) :
    s.advance dsm div = { s with
      ch1 := (s.advance dsm div).ch1
      ch2 := (s.advance dsm div).ch2
      ch3 := (s.advance dsm div).ch3
      ch4 := (s.advance dsm div).ch4
      fsStep := (s.fsClock dsm div).fsStep
      fsEdgeStep := (s.fsClock dsm div).fsEdgeStep
      divSnap := div
      rs := (s.rs.mixStep s.params (s.fsClock dsm div).tickChannels.2).1
      result := (s.advance dsm div).result
      samples := (s.advance dsm div).samples
      refusals := (s.advance dsm div).refusals
      sinkPlan := (s.advance dsm div).sinkPlan } := by
  have h := State.mix_frame (s.fsClock dsm div).tickChannels.2 (s.fsClock dsm div).tickChannels.1
  rw [State.advance]
  conv_lhs => rw [h]
  conv_rhs => rw [h]
  rw [s.fsClock_frame]
  rfl

end Sys2Proof.Machine
end

