-- ==== Sys2Proof/Laws/PerInstr.lean ====
section
/-! SUPPORT. Per-instruction laws: the word of every operation matches its row of spec/opcode_table.json. -/

namespace Sys2Proof.Laws

/-- The data byte stands in bits 7:0, outside the masks of the single-address rows. -/
theorem packWord_and_address (k : BitVec 2) (a : Addr) (v : Byte) : packWord k a v &&& 0x3FFFF00 = packWord k a 0 := by
  apply BitVec.eq_of_getLsbD_eq
  intro i hi
  rw [BitVec.getLsbD_and, packWord_getLsbD, packWord_getLsbD]
  interval_cases i <;> simp

theorem packWord_and_wave (k : BitVec 2) (a : BitVec 4) (v : Byte) :
    packWord k (0xFF3#12 ++ a) v &&& 0x3FFF000 = packWord k 0xFF30 0 := by
  apply BitVec.eq_of_getLsbD_eq
  intro i hi
  rw [BitVec.getLsbD_and, packWord_getLsbD, packWord_getLsbD, BitVec.getLsbD_append]
  interval_cases i <;> simp

theorem packWord_and_unused (k : BitVec 2) (a : BitVec 3) (v : Byte) :
    packWord k (0x1FE5#13 ++ a) v &&& 0x3FFF800 = packWord k 0xFF28 0 := by
  apply BitVec.eq_of_getLsbD_eq
  intro i hi
  rw [BitVec.getLsbD_and, packWord_getLsbD, packWord_getLsbD, BitVec.getLsbD_append]
  interval_cases i <;> simp

theorem packWord_and_advance (b : Bool) (v : Byte) :
    packWord 2 (0#15 ++ BitVec.ofBool b) v &&& 0x3FFFE00 = packWord 2 0 0 := by
  apply BitVec.eq_of_getLsbD_eq
  intro i hi
  rw [BitVec.getLsbD_and, packWord_getLsbD, packWord_getLsbD, BitVec.getLsbD_append]
  interval_cases i <;> simp

/-- The word of `i` matches the row of `i`: `T & mask = match` (spec/30_encoding.md R92). -/
def EncodesItsRow.Statement (i : Instr) : Prop := encode i &&& i.rowMask = i.rowMatch

theorem EncodesItsRow.wrNr10 (v : Byte) : EncodesItsRow.Statement (.wrNr10 v) := packWord_and_address 1 0xFF10 v
theorem EncodesItsRow.rdNr10 : EncodesItsRow.Statement .rdNr10 := packWord_and_address 0 0xFF10 0
theorem EncodesItsRow.wrNr11 (v : Byte) : EncodesItsRow.Statement (.wrNr11 v) := packWord_and_address 1 0xFF11 v
theorem EncodesItsRow.rdNr11 : EncodesItsRow.Statement .rdNr11 := packWord_and_address 0 0xFF11 0
theorem EncodesItsRow.wrNr12 (v : Byte) : EncodesItsRow.Statement (.wrNr12 v) := packWord_and_address 1 0xFF12 v
theorem EncodesItsRow.rdNr12 : EncodesItsRow.Statement .rdNr12 := packWord_and_address 0 0xFF12 0
theorem EncodesItsRow.wrNr13 (v : Byte) : EncodesItsRow.Statement (.wrNr13 v) := packWord_and_address 1 0xFF13 v
theorem EncodesItsRow.rdNr13 : EncodesItsRow.Statement .rdNr13 := packWord_and_address 0 0xFF13 0
theorem EncodesItsRow.wrNr14 (v : Byte) : EncodesItsRow.Statement (.wrNr14 v) := packWord_and_address 1 0xFF14 v
theorem EncodesItsRow.rdNr14 : EncodesItsRow.Statement .rdNr14 := packWord_and_address 0 0xFF14 0
theorem EncodesItsRow.wrNr21 (v : Byte) : EncodesItsRow.Statement (.wrNr21 v) := packWord_and_address 1 0xFF16 v
theorem EncodesItsRow.rdNr21 : EncodesItsRow.Statement .rdNr21 := packWord_and_address 0 0xFF16 0
theorem EncodesItsRow.wrNr22 (v : Byte) : EncodesItsRow.Statement (.wrNr22 v) := packWord_and_address 1 0xFF17 v
theorem EncodesItsRow.rdNr22 : EncodesItsRow.Statement .rdNr22 := packWord_and_address 0 0xFF17 0
theorem EncodesItsRow.wrNr23 (v : Byte) : EncodesItsRow.Statement (.wrNr23 v) := packWord_and_address 1 0xFF18 v
theorem EncodesItsRow.rdNr23 : EncodesItsRow.Statement .rdNr23 := packWord_and_address 0 0xFF18 0
theorem EncodesItsRow.wrNr24 (v : Byte) : EncodesItsRow.Statement (.wrNr24 v) := packWord_and_address 1 0xFF19 v
theorem EncodesItsRow.rdNr24 : EncodesItsRow.Statement .rdNr24 := packWord_and_address 0 0xFF19 0
theorem EncodesItsRow.wrNr30 (v : Byte) : EncodesItsRow.Statement (.wrNr30 v) := packWord_and_address 1 0xFF1A v
theorem EncodesItsRow.rdNr30 : EncodesItsRow.Statement .rdNr30 := packWord_and_address 0 0xFF1A 0
theorem EncodesItsRow.wrNr31 (v : Byte) : EncodesItsRow.Statement (.wrNr31 v) := packWord_and_address 1 0xFF1B v
theorem EncodesItsRow.rdNr31 : EncodesItsRow.Statement .rdNr31 := packWord_and_address 0 0xFF1B 0
theorem EncodesItsRow.wrNr32 (v : Byte) : EncodesItsRow.Statement (.wrNr32 v) := packWord_and_address 1 0xFF1C v
theorem EncodesItsRow.rdNr32 : EncodesItsRow.Statement .rdNr32 := packWord_and_address 0 0xFF1C 0
theorem EncodesItsRow.wrNr33 (v : Byte) : EncodesItsRow.Statement (.wrNr33 v) := packWord_and_address 1 0xFF1D v
theorem EncodesItsRow.rdNr33 : EncodesItsRow.Statement .rdNr33 := packWord_and_address 0 0xFF1D 0
theorem EncodesItsRow.wrNr34 (v : Byte) : EncodesItsRow.Statement (.wrNr34 v) := packWord_and_address 1 0xFF1E v
theorem EncodesItsRow.rdNr34 : EncodesItsRow.Statement .rdNr34 := packWord_and_address 0 0xFF1E 0
theorem EncodesItsRow.wrNr41 (v : Byte) : EncodesItsRow.Statement (.wrNr41 v) := packWord_and_address 1 0xFF20 v
theorem EncodesItsRow.rdNr41 : EncodesItsRow.Statement .rdNr41 := packWord_and_address 0 0xFF20 0
theorem EncodesItsRow.wrNr42 (v : Byte) : EncodesItsRow.Statement (.wrNr42 v) := packWord_and_address 1 0xFF21 v
theorem EncodesItsRow.rdNr42 : EncodesItsRow.Statement .rdNr42 := packWord_and_address 0 0xFF21 0
theorem EncodesItsRow.wrNr43 (v : Byte) : EncodesItsRow.Statement (.wrNr43 v) := packWord_and_address 1 0xFF22 v
theorem EncodesItsRow.rdNr43 : EncodesItsRow.Statement .rdNr43 := packWord_and_address 0 0xFF22 0
theorem EncodesItsRow.wrNr44 (v : Byte) : EncodesItsRow.Statement (.wrNr44 v) := packWord_and_address 1 0xFF23 v
theorem EncodesItsRow.rdNr44 : EncodesItsRow.Statement .rdNr44 := packWord_and_address 0 0xFF23 0
theorem EncodesItsRow.wrNr50 (v : Byte) : EncodesItsRow.Statement (.wrNr50 v) := packWord_and_address 1 0xFF24 v
theorem EncodesItsRow.rdNr50 : EncodesItsRow.Statement .rdNr50 := packWord_and_address 0 0xFF24 0
theorem EncodesItsRow.wrNr51 (v : Byte) : EncodesItsRow.Statement (.wrNr51 v) := packWord_and_address 1 0xFF25 v
theorem EncodesItsRow.rdNr51 : EncodesItsRow.Statement .rdNr51 := packWord_and_address 0 0xFF25 0
theorem EncodesItsRow.wrNr52 (v : Byte) : EncodesItsRow.Statement (.wrNr52 v) := packWord_and_address 1 0xFF26 v
theorem EncodesItsRow.rdNr52 : EncodesItsRow.Statement .rdNr52 := packWord_and_address 0 0xFF26 0
theorem EncodesItsRow.wrWave (k : BitVec 4) (v : Byte) : EncodesItsRow.Statement (.wrWave k v) := packWord_and_wave 1 k v
theorem EncodesItsRow.rdWave (k : BitVec 4) : EncodesItsRow.Statement (.rdWave k) := packWord_and_wave 0 k 0
theorem EncodesItsRow.wrUnusedFf15 (v : Byte) : EncodesItsRow.Statement (.wrUnusedFf15 v) := packWord_and_address 1 0xFF15 v
theorem EncodesItsRow.rdUnusedFf15 : EncodesItsRow.Statement .rdUnusedFf15 := packWord_and_address 0 0xFF15 0
theorem EncodesItsRow.wrUnusedFf1f (v : Byte) : EncodesItsRow.Statement (.wrUnusedFf1f v) := packWord_and_address 1 0xFF1F v
theorem EncodesItsRow.rdUnusedFf1f : EncodesItsRow.Statement .rdUnusedFf1f := packWord_and_address 0 0xFF1F 0
theorem EncodesItsRow.wrUnusedFf27 (v : Byte) : EncodesItsRow.Statement (.wrUnusedFf27 v) := packWord_and_address 1 0xFF27 v
theorem EncodesItsRow.rdUnusedFf27 : EncodesItsRow.Statement .rdUnusedFf27 := packWord_and_address 0 0xFF27 0
theorem EncodesItsRow.wrUnusedFf28To2f (a : BitVec 3) (v : Byte) : EncodesItsRow.Statement (.wrUnusedFf28To2f a v) := packWord_and_unused 1 a v
theorem EncodesItsRow.rdUnusedFf28To2f (a : BitVec 3) : EncodesItsRow.Statement (.rdUnusedFf28To2f a) := packWord_and_unused 0 a 0
theorem EncodesItsRow.advance (dsm : Bool) (div : Byte) : EncodesItsRow.Statement (.advance dsm div) := packWord_and_advance dsm div
theorem EncodesItsRow.reset : EncodesItsRow.Statement .reset := by unfold EncodesItsRow.Statement; decide

end Sys2Proof.Laws
end

