-- ==== Sys2Proof/Laws/Registers.lean ====
section
/-! SUPPORT. What the register procedures can do, said once: the length reload, the quirks of an NRx4 write, the power procedures. -/

namespace Sys2Proof.Machine

theorem maxLen_pos (c : Ch) : 1 ≤ maxLen c := by cases c <;> decide

/-- A length reload gives 1 to the maximum (spec/41_channel_registers.md R151). -/
theorem lenLoad_range (c : Ch) (v : Byte) :
    1 ≤ maxLen c - (v &&& lenMask c).toNat ∧ maxLen c - (v &&& lenMask c).toNat ≤ maxLen c := by
  have h : (v &&& lenMask c).toNat < maxLen c := by
    cases c <;> revert v <;> decide
  omega

/-- A plain store touches its own channel only. -/
theorem State.storeReg_ch (s : State) (c d : Ch) (i : Fin 5) (v : Byte) :
    (s.storeReg c i v).ch d = if d = c then (s.ch c).setReg i v else s.ch d := by
  cases c <;> cases d <;> rfl

theorem State.storeLength_ch (s : State) (c d : Ch) (v : Byte) :
    (s.storeLength c v).ch d =
      if d = c then { s.ch c with reg1 := v, len := maxLen c - (v &&& lenMask c).toNat } else s.ch d := by
  cases c <;> cases d <;> rfl

theorem State.trigWrite_ch (s : State) (c d : Ch) (v : Byte) :
    (s.trigWrite c v).ch d = if d = c then (s.ch c).trigWrite (lenClk s.nextStep) (maxLen c) v else s.ch d := by
  cases c <;> cases d <;> rfl

theorem Channel.quirk1_frame (clk : Bool) (v : Byte) (x : Channel) :
    x.quirk1 clk v = { x with len := (x.quirk1 clk v).len, on := (x.quirk1 clk v).on } := by
  unfold Channel.quirk1; split <;> rfl

theorem Channel.quirk2_frame (m : Nat) (v : Byte) (x : Channel) : x.quirk2 m v = { x with len := (x.quirk2 m v).len } := by
  unfold Channel.quirk2; split <;> rfl

theorem Channel.quirk3_frame (m : Nat) (v : Byte) (x : Channel) : x.quirk3 m v = { x with len := (x.quirk3 m v).len } := by
  unfold Channel.quirk3; split <;> rfl

/-- An NRx4 write changes the length counter, the on flag and slot 4 of its channel (R160). -/
theorem Channel.trigWrite_frame (clk : Bool) (m : Nat) (v : Byte) (x : Channel) :
    x.trigWrite clk m v = { x with len := (x.trigWrite clk m v).len, on := (x.trigWrite clk m v).on, reg4 := v } := by
  unfold Channel.trigWrite
  rw [Channel.quirk3_frame, Channel.quirk2_frame, Channel.quirk1_frame]

/-- An NRx4 write never turns a channel on. -/
theorem Channel.trigWrite_on (clk : Bool) (m : Nat) (v : Byte) (x : Channel) (h : (x.trigWrite clk m v).on = true) : x.on = true := by
  have h1 : (x.quirk1 clk v).on = true := by
    rw [Channel.trigWrite, Channel.quirk3_frame, Channel.quirk2_frame] at h
    exact h
  unfold Channel.quirk1 Channel.countLength at h1
  split at h1
  · simp only at h1
    split at h1
    · exact absurd h1 (by simp)
    · exact h1
  · exact h1

/-- An NRx4 write keeps the counter within its maximum. -/
theorem Channel.trigWrite_len_le (clk : Bool) (m : Nat) (v : Byte) (x : Channel) (h : x.len ≤ m) :
    (x.trigWrite clk m v).len ≤ m := by
  have h1 : (x.quirk1 clk v).len ≤ m := by
    unfold Channel.quirk1 Channel.countLength
    split
    · exact (Nat.sub_le _ _).trans h
    · exact h
  have h2 : ((x.quirk1 clk v).quirk2 m v).len ≤ m := by
    unfold Channel.quirk2
    split
    · exact (Nat.sub_le _ _).trans h1
    · exact h1
  show (((x.quirk1 clk v).quirk2 m v).quirk3 m v).len ≤ m
  unfold Channel.quirk3
  split
  · exact le_refl m
  · exact h2

theorem State.writeNr52_of_off (s : State) (v : Byte) (h : v.getLsbD 7 = false) : s.writeNr52 v = s.powerOff := by
  rw [State.writeNr52, h]; rfl

theorem State.writeNr52_of_on (s : State) (v : Byte) (h : v.getLsbD 7 = true) : s.writeNr52 v = s.powerOn := by
  rw [State.writeNr52, h]; rfl

/-- After a power-off every channel record is zero (spec/40_register_bank.md R120). -/
theorem State.powerOff_ch (s : State) (c : Ch) : s.powerOff.ch c = Channel.zero := by cases c <;> rfl

/-- A power-on leaves every channel record alone (R121). -/
theorem State.powerOn_ch (s : State) (c : Ch) : s.powerOn.ch c = s.ch c := by cases c <;> rfl

end Sys2Proof.Machine
end

