-- ==== Sys2Proof/Tests/Slice0.lean ====
section
/-! SUPPORT. The model's own tests: ill-formed terms that the checks refuse, words written out from the spec's encodings, one-step tests
with the expected values of spec/95_test_vectors.md, and a witness for the hypotheses of every statement. -/

open Sys2Proof Sys2Proof.Machine Sys2Proof.Claims

namespace Sys2Proof.Tests

/-! ### Well-formedness: an ill-formed term for each check -/

/-- A sample rate of 0 is refused (spec/00_scope.md R7). -/
theorem test_illFormed_sampleHz : ({ defaultParams with sampleHz := 0 } : Params).wellFormed = false := by decide

/-- `Q = 0` is refused (R7). -/
theorem test_illFormed_q : ({ defaultParams with deviceHz := 44099 } : Params).wellFormed = false := by decide

theorem test_wellFormed_defaults : defaultParams.wellFormed = true := by decide

/-- The addresses beside the window are refused (spec/20_memory.md R70). -/
theorem test_illFormed_addresses : inWindow 0xFF0F = false ∧ inWindow 0xFF40 = false ∧ inWindow 0xFF10 = true ∧ inWindow 0xFF3F = true := by
  decide

/-- No operand can name an address outside the window. -/
theorem test_wellFormed_ends : (Instr.wrNr10 0xFF).wellFormed = true ∧ (Instr.rdWave 15).wellFormed = true ∧
    (Instr.wrUnusedFf28To2f 7 0).wellFormed = true := by decide

/-- The words spec/95_test_vectors.md B1 refuses, by name. -/
theorem test_decode_refusals : decode 0x0FF4000 = .error .outsideWindow ∧ decode 0x1FF0F00 = .error .outsideWindow ∧
    decode 0x2000200 = .error .badEncoding ∧ decode 0x3000001 = .error .badEncoding := by decide

/-! ### Decoding: every constructor, from a word of spec/30_encoding.md R90 and R91 written out as kind, address and data -/

theorem test_decode_channel1 : ([
    (0b01_11111111_00010000_10100101, .wrNr10 0xA5),
    (0b00_11111111_00010000_00000000, .rdNr10),
    (0b01_11111111_00010001_10100101, .wrNr11 0xA5),
    (0b00_11111111_00010001_00000000, .rdNr11),
    (0b01_11111111_00010010_10100101, .wrNr12 0xA5),
    (0b00_11111111_00010010_00000000, .rdNr12),
    (0b01_11111111_00010011_10100101, .wrNr13 0xA5),
    (0b00_11111111_00010011_00000000, .rdNr13),
    (0b01_11111111_00010100_10100101, .wrNr14 0xA5),
    (0b00_11111111_00010100_00000000, .rdNr14)] : List (TWord × Instr)).all
    (fun e => decide (decode e.1 = .ok e.2)) = true := by decide

theorem test_decode_channel2 : ([
    (0b01_11111111_00010110_10100101, .wrNr21 0xA5),
    (0b00_11111111_00010110_00000000, .rdNr21),
    (0b01_11111111_00010111_10100101, .wrNr22 0xA5),
    (0b00_11111111_00010111_00000000, .rdNr22),
    (0b01_11111111_00011000_10100101, .wrNr23 0xA5),
    (0b00_11111111_00011000_00000000, .rdNr23),
    (0b01_11111111_00011001_10100101, .wrNr24 0xA5),
    (0b00_11111111_00011001_00000000, .rdNr24)] : List (TWord × Instr)).all
    (fun e => decide (decode e.1 = .ok e.2)) = true := by decide

theorem test_decode_channel3 : ([
    (0b01_11111111_00011010_10100101, .wrNr30 0xA5),
    (0b00_11111111_00011010_00000000, .rdNr30),
    (0b01_11111111_00011011_10100101, .wrNr31 0xA5),
    (0b00_11111111_00011011_00000000, .rdNr31),
    (0b01_11111111_00011100_10100101, .wrNr32 0xA5),
    (0b00_11111111_00011100_00000000, .rdNr32),
    (0b01_11111111_00011101_10100101, .wrNr33 0xA5),
    (0b00_11111111_00011101_00000000, .rdNr33),
    (0b01_11111111_00011110_10100101, .wrNr34 0xA5),
    (0b00_11111111_00011110_00000000, .rdNr34)] : List (TWord × Instr)).all
    (fun e => decide (decode e.1 = .ok e.2)) = true := by decide

theorem test_decode_channel4 : ([
    (0b01_11111111_00100000_10100101, .wrNr41 0xA5),
    (0b00_11111111_00100000_00000000, .rdNr41),
    (0b01_11111111_00100001_10100101, .wrNr42 0xA5),
    (0b00_11111111_00100001_00000000, .rdNr42),
    (0b01_11111111_00100010_10100101, .wrNr43 0xA5),
    (0b00_11111111_00100010_00000000, .rdNr43),
    (0b01_11111111_00100011_10100101, .wrNr44 0xA5),
    (0b00_11111111_00100011_00000000, .rdNr44)] : List (TWord × Instr)).all
    (fun e => decide (decode e.1 = .ok e.2)) = true := by decide

theorem test_decode_bank : ([
    (0b01_11111111_00100100_10100101, .wrNr50 0xA5),
    (0b00_11111111_00100100_00000000, .rdNr50),
    (0b01_11111111_00100101_10100101, .wrNr51 0xA5),
    (0b00_11111111_00100101_00000000, .rdNr51),
    (0b01_11111111_00100110_10100101, .wrNr52 0xA5),
    (0b00_11111111_00100110_00000000, .rdNr52),
    (0b00_11111111_00100110_10100101, .rdNr52)] : List (TWord × Instr)).all
    (fun e => decide (decode e.1 = .ok e.2)) = true := by decide

theorem test_decode_waveRam : ([
    (0b01_11111111_00110000_00010010, .wrWave 0 0x12),
    (0b01_11111111_00111111_11111111, .wrWave 15 0xFF),
    (0b00_11111111_00110000_00000000, .rdWave 0),
    (0b00_11111111_00111111_01011010, .rdWave 15)] : List (TWord × Instr)).all
    (fun e => decide (decode e.1 = .ok e.2)) = true := by decide

theorem test_decode_unused : ([
    (0b01_11111111_00010101_10100101, .wrUnusedFf15 0xA5),
    (0b00_11111111_00010101_00000000, .rdUnusedFf15),
    (0b01_11111111_00011111_10100101, .wrUnusedFf1f 0xA5),
    (0b00_11111111_00011111_00000000, .rdUnusedFf1f),
    (0b01_11111111_00100111_10100101, .wrUnusedFf27 0xA5),
    (0b00_11111111_00100111_00000000, .rdUnusedFf27),
    (0b01_11111111_00101000_10100101, .wrUnusedFf28To2f 0 0xA5),
    (0b01_11111111_00101111_11111111, .wrUnusedFf28To2f 7 0xFF),
    (0b00_11111111_00101000_00000000, .rdUnusedFf28To2f 0),
    (0b00_11111111_00101100_10100101, .rdUnusedFf28To2f 4)] : List (TWord × Instr)).all
    (fun e => decide (decode e.1 = .ok e.2)) = true := by decide

theorem test_decode_advanceAndReset : ([
    (0b10_00000000_00000000_00010000, .advance false 0x10),
    (0b10_00000000_00000001_11111111, .advance true 0xFF),
    (0b11_00000000_00000000_00000000, .reset)] : List (TWord × Instr)).all
    (fun e => decide (decode e.1 = .ok e.2)) = true := by decide

/-- The host's numbering: bits above the word's width are dropped, a word of more than 26 bits is none (assumption log 18). -/
theorem test_decodeTableWord : decodeTableWord 32 0x1FF2680 = some (.wrNr52 0x80) ∧ decodeTableWord 26 0x3000000 = some .reset ∧
    decodeTableWord 32 0x4000000 = none ∧ decodeTableWord 32 0x2000200 = none := by decide
/-! ### One step each: the helpers -/

/-- The state after an operation. -/
def after (i : Instr) (s : State) : State :=
  match exec i s with
  | .next t => t
  | _ => s

/-- "Fresh": RESET followed by POWERON (spec/95_test_vectors.md). -/
def fresh : State := { State.reset with power := true }

/-- "Odd phase": one FS edge has been run. -/
def odd : State := { fresh with fsStep := 1 }

/-- A channel record with given register bytes. -/
def chan (r0 r1 r2 r3 r4 : Byte) : Channel := { Channel.zero with reg0 := r0, reg1 := r1, reg2 := r2, reg3 := r3, reg4 := r4 }

/-- Every register stored as 0x5A (B2.2). -/
def all5A : State :=
  { fresh with
    ch1 := chan 0x5A 0x5A 0x5A 0x5A 0x5A
    ch2 := chan 0 0x5A 0x5A 0x5A 0x5A
    ch3 := chan 0x5A 0x5A 0x5A 0x5A 0x5A
    ch4 := chan 0 0x5A 0x5A 0x5A 0x5A
    nr50 := 0x5A
    nr51 := 0x5A }

/-- The byte a READ answers. -/
def readByte (i : Instr) (s : State) : Option Byte :=
  match (after i s).result with
  | .readByte b => some b
  | _ => none

/-! ### One step each: reads (B2.2, B2.3, B2.5, B2.6) -/

theorem test_reads_of_5A : ([(.rdNr10, 0xDA), (.rdNr11, 0x7F), (.rdNr12, 0x5A), (.rdNr13, 0xFF), (.rdNr14, 0xFF), (.rdNr21, 0x7F),
    (.rdNr22, 0x5A), (.rdNr23, 0xFF), (.rdNr24, 0xFF), (.rdNr30, 0x7F), (.rdNr31, 0xFF), (.rdNr32, 0xDF), (.rdNr33, 0xFF),
    (.rdNr34, 0xFF), (.rdNr41, 0xFF), (.rdNr42, 0x5A), (.rdNr43, 0x5A), (.rdNr44, 0xFF), (.rdNr50, 0x5A),
    (.rdNr51, 0x5A)] : List (Instr × Byte)).all (fun e => readByte e.1 all5A == some e.2) = true := by decide

theorem test_reads_of_00 : ([(.rdNr10, 0x80), (.rdNr11, 0x3F), (.rdNr12, 0x00), (.rdNr14, 0xBF), (.rdNr30, 0x7F), (.rdNr32, 0x9F),
    (.rdNr41, 0xFF), (.rdNr44, 0xBF), (.rdNr52, 0xF0), (.rdUnusedFf15, 0xFF), (.rdUnusedFf1f, 0xFF), (.rdUnusedFf27, 0xFF),
    (.rdUnusedFf28To2f 7, 0xFF), (.rdWave 15, 0x00)] : List (Instr × Byte)).all (fun e => readByte e.1 fresh == some e.2) = true := by
  decide

/-- NR52 with channel 1 on reads 0xF1, with channels 3 and 4 on 0xFC, powered off 0x70 (B2.5). -/
theorem test_read_nr52 :
    readByte .rdNr52 { fresh with ch1 := { Channel.zero with on := true } } = some 0xF1 ∧
    readByte .rdNr52 { fresh with ch3 := { Channel.zero with on := true }, ch4 := { Channel.zero with on := true } } = some 0xFC ∧
    readByte .rdNr52 State.reset = some 0x70 := by decide

/-! ### One step each: writes -/

/-- Each plain write stores the byte in its own slot (spec/41_channel_registers.md R150). -/
theorem test_plain_writes :
    (after (.wrNr10 0xA1) fresh).ch1 = chan 0xA1 0 0 0 0 ∧ (after (.wrNr12 0xA2) fresh).ch1 = chan 0 0 0xA2 0 0 ∧
    (after (.wrNr13 0xA3) fresh).ch1 = chan 0 0 0 0xA3 0 ∧ (after (.wrNr22 0xA4) fresh).ch2 = chan 0 0 0xA4 0 0 ∧
    (after (.wrNr23 0xA5) fresh).ch2 = chan 0 0 0 0xA5 0 ∧ (after (.wrNr30 0xA6) fresh).ch3 = chan 0xA6 0 0 0 0 ∧
    (after (.wrNr32 0xA7) fresh).ch3 = chan 0 0 0xA7 0 0 ∧ (after (.wrNr33 0xA8) fresh).ch3 = chan 0 0 0 0xA8 0 ∧
    (after (.wrNr42 0xA9) fresh).ch4 = chan 0 0 0xA9 0 0 ∧ (after (.wrNr43 0xAA) fresh).ch4 = chan 0 0 0 0xAA 0 := by decide

/-- Length loads (B2.4, R190). -/
theorem test_length_writes :
    (after (.wrNr11 0x3F) fresh).ch1.len = 1 ∧ (after (.wrNr11 0xC5) fresh).ch1.len = 59 ∧ (after (.wrNr11 0) fresh).ch1.len = 64 ∧
    (after (.wrNr21 0x3F) fresh).ch2.len = 1 ∧ (after (.wrNr31 0xFF) fresh).ch3.len = 1 ∧ (after (.wrNr31 0) fresh).ch3.len = 256 ∧
    (after (.wrNr41 0x3E) fresh).ch4.len = 2 := by decide

/-- Channel 1 with a length counter and a stored NR14. -/
def withLen (s : State) (n : Nat) (r4 : Byte) : State := { s with ch1 := { chan 0 0 0xF0 0 r4 with len := n, on := true } }

/-- B3.1 to B3.4. -/
theorem test_trigWrite_quirk1 : (after (.wrNr14 0x40) (withLen odd 2 0)).ch1.len = 1 ∧
    (after (.wrNr14 0x40) (withLen odd 1 0x40)).ch1.len = 1 ∧ (after (.wrNr14 0x40) (withLen fresh 2 0)).ch1.len = 2 ∧
    (after (.wrNr14 0xC0) (withLen odd 1 0)).ch1.len = 64 ∧ (after (.wrNr14 0xC0) (withLen odd 1 0)).ch1.on = false := by decide

/-- B3.5 to B3.8. -/
theorem test_trigWrite_quirk23 : (after (.wrNr14 0x40) (withLen odd 1 0)).ch1.len = 0 ∧
    (after (.wrNr14 0x40) (withLen odd 1 0)).ch1.on = false ∧ (after (.wrNr14 0xC0) (withLen fresh 64 0x40)).ch1.len = 63 ∧
    (after (.wrNr14 0x80) (withLen fresh 0 0)).ch1.len = 64 ∧ (after (.wrNr14 0xC0) (withLen fresh 0 0)).ch1.len = 64 := by decide

/-- B3.9 and B3.10, and channels 2 and 4 by the same rule (R178, R196). -/
theorem test_trigWrite_channels :
    (after (.wrNr34 0xC0) { fresh with ch3 := { chan 0x80 0 0 0 0x40 with len := 256 } }).ch3.len = 255 ∧
    (after (.wrNr34 0x80) fresh).ch3.len = 256 ∧ (after (.wrNr24 0x80) fresh).ch2.len = 64 ∧
    (after (.wrNr44 0x80) fresh).ch4.len = 64 ∧ (after (.wrNr44 0x80) fresh).ch4.reg4 = 0x80 := by decide

/-- NR52 (B2.5, B2.7, P5): the status bits are not writable, power-on resets the sequencer on the transition only. -/
theorem test_write_nr52 : (after (.wrNr52 0x8F) fresh).nr52Value = 0xF0 ∧ (after (.wrNr52 0x80) odd).fsStep = 1 ∧
    (after (.wrNr52 0x80) { odd with power := false }).fsStep = 0 ∧
    (after (.wrNr52 0x80) { odd with params := { defaultParams with nr52FsResetOnEverySet := true } }).fsStep = 0 := by decide

theorem test_power_off : (after (.wrNr52 0x7F) { all5A with mem := [(0xFF30, 0xAB)] }).ch1 = Channel.zero ∧
    (after (.wrNr52 0x7F) all5A).nr50 = 0 ∧ (after (.wrNr52 0x7F) all5A).power = false ∧
    (after (.wrNr52 0x7F) { all5A with mem := [(0xFF30, 0xAB)] }).mem = [(0xFF30, 0xAB)] := by decide

/-- B2.6: powered off a register write is discarded and a wave write is kept. -/
theorem test_power_gating : (after (.wrNr12 0xF0) State.reset).ch1 = Channel.zero ∧ (after (.wrNr50 0x77) State.reset).nr50 = 0 ∧
    (after (.wrWave 1 0xCD) State.reset).mem = [(0xFF31, 0xCD)] := by decide

/-- A wave write goes to its own byte and a zero is not listed (assumption log 9). -/
theorem test_wave_writes : (after (.wrWave 0 0x12) { fresh with mem := [(0xFF31, 0x34)] }).mem = [(0xFF30, 0x12), (0xFF31, 0x34)] ∧
    (after (.wrWave 15 0) { fresh with mem := [(0xFF31, 0x34), (0xFF3F, 1)] }).mem = [(0xFF31, 0x34)] := by decide

theorem test_mixer_and_unused_writes : (after (.wrNr50 0x77) fresh).nr50 = 0x77 ∧ (after (.wrNr51 0xF0) fresh).nr51 = 0xF0 ∧
    (after (.wrUnusedFf15 0x12) all5A).ch1 = all5A.ch1 ∧ (after (.wrUnusedFf28To2f 0 0x12) all5A).mem = [] := by decide

/-! ### One step each: RESET -/

theorem test_reset : (after .reset { all5A with init := false }).ch4 = Channel.zero ∧
    (after .reset { all5A with init := false }).rs.countdown = 23 ∧ (after .reset { all5A with init := false }).init = true := by decide

/-! ### One step each: ADVANCE, and the operations inside it -/

/-- B4.2, B4.3, B4.6, B4.9. -/
theorem test_advance_edges :
    ((after (.advance false 0x00) { fresh with divSnap := 0x10 }).fsStep, (after (.advance false 0) { fresh with divSnap := 0x10 }).fsEdgeStep)
      = (1, 0) ∧
    (after (.advance false 0) { fresh with divSnap := 0x10, params := { defaultParams with fsPhase := .post } }).fsEdgeStep = 1 ∧
    (after (.advance false 0x0F) fresh).fsStep = 0 ∧ (after (.advance true 0x00) { fresh with divSnap := 0x10 }).fsStep = 0 ∧
    (after (.advance true 0x00) { fresh with divSnap := 0x20 }).fsStep = 1 := by decide

/-- P1: the trigger tick turns channel 1 on, and a length clock turns it off. -/
theorem test_advance_trigger_and_length :
    (after (.advance false 0x10) (withLen fresh 1 0xC0)).nr52Value = 0xF1 ∧
    (after (.advance false 0x00) { withLen fresh 1 0x40 with divSnap := 0x10 }).nr52Value = 0xF0 := by decide

/-- B5.1: period 0x7FE counts to 0x7FF at the trigger tick and rolls over at the next, and duty 2 at index 0 gives the volume. -/
theorem test_pulse_tick : ((chan 0 0x80 0xF0 0xFE 0x87).tickPulse true defaultDuty 0).2 = 15 ∧
    ((chan 0 0x80 0xF0 0xFE 0x87).tickPulse true defaultDuty 0).1.pcnt = 0x7FF ∧
    (((chan 0 0x80 0xF0 0xFE 0x87).tickPulse true defaultDuty 0).1.tickPulse true defaultDuty 0).1.pcnt = 0x7FE ∧
    (((chan 0 0x80 0xF0 0xFE 0x87).tickPulse true defaultDuty 0).1.tickPulse true defaultDuty 0).1.idx = 1 := by decide

/-- B5.6: a trigger written with the DAC off stays pending. -/
theorem test_pending_trigger : ((chan 0 0 0x07 0 0x80).tickPulse true defaultDuty 0).1 = chan 0 0 0x07 0 0x80 ∧
    ((chan 0 0 0x10 0 0x80).tickPulse true defaultDuty 0).1.on = true ∧
    ((chan 0 0 0x10 0 0x80).tickPulse true defaultDuty 0).1.reg4 = 0 := by decide

/-- The table of B6: NR10, the period, then the on flag, the shadow and the countdown after the trigger tick. -/
theorem test_sweep_table : ([(0x21, 0x100, true, 0x180, 2), (0x29, 0x100, true, 0x080, 2), (0x20, 0x400, false, 0x400, 2),
    (0x20, 0x3FF, true, 0x7FE, 2), (0x21, 0x555, false, 0x555, 2), (0x21, 0x554, true, 0x7FE, 2), (0x27, 0x7FF, false, 0x7FF, 2),
    (0x2F, 0x000, true, 0x000, 2), (0x01, 0x100, true, 0x100, 0)] : List (Nat × Nat × Bool × Nat × Nat)).all
    (fun e =>
      let x := ((chan (.ofNat 8 e.1) 0 0xF0 (.ofNat 8 e.2.1) (.ofNat 8 (0x80 + e.2.1 / 256))).tickPulse true defaultDuty 0).1
      x.on == e.2.2.1 && x.shadow.toNat == e.2.2.2.1 && x.period.toNat == e.2.2.2.1 && x.swCnt.toNat == e.2.2.2.2) = true := by
  decide

/-- The envelope of B5.3: pace 3 counts, pace 1 steps both ways, pace 0 and the ends hold. -/
theorem test_envelope : ({ Channel.zero with envVol := 2, envPace := 3, envCnt := 3 }.envelope.envVol = 2) ∧
    ({ Channel.zero with envVol := 2, envPace := 3, envCnt := 3 }.envelope.envCnt = 2) ∧
    ({ Channel.zero with envVol := 15, envPace := 1, envCnt := 1 }.envelope.envVol = 14) ∧
    ({ Channel.zero with envVol := 0, envDir := true, envPace := 1, envCnt := 1 }.envelope.envVol = 1) ∧
    ({ Channel.zero with envVol := 15, envDir := true, envPace := 1, envCnt := 1 }.envelope.envVol = 15) ∧
    ({ Channel.zero with envVol := 0, envPace := 1, envCnt := 1 }.envelope.envVol = 0) := by decide

/-- B7.2: at period 0x7FF the trigger sub-tick outputs entry 1 and the second entry 2, averaged to 0; A4: low nibble first. -/
theorem test_wave_ticks :
    ((chan 0x80 0 0x20 0xFF 0x87).tickWaveTwice [(0xFF30, 0x12)] 0).2 = 0 ∧
    ((chan 0x80 0 0x20 0xFF 0x87).tickWave [(0xFF30, 0x12)] 0).2 = 1 ∧
    ((chan 0x80 0 0x20 0xFF 0x87).tickWaveTwice [(0xFF30, 0x12)] 0).1.idx = 2 ∧
    waveNibble [(0xFF30, 0x12)] 0 = 2 ∧ waveNibble [(0xFF30, 0x12)] 1 = 1 := by decide

/-- B7.5: the length clock counts once in the two sub-ticks. -/
theorem test_wave_length : ({ chan 0x80 0 0x20 0 0x40 with len := 5, on := true, edge := true }.tickWaveTwice [] 0).1.len = 4 := by decide

/-- The table of B8.1. -/
theorem test_noise_periods : ([(0x00, 1), (0x01, 2), (0x07, 14), (0x10, 2), (0x23, 24), (0x70, 128), (0xF0, 32768), (0xF1, 65536),
    (0xF7, 458752)] : List (Byte × Nat)).all (fun e => (chan 0 0 0 e.1 0).noisePeriod == e.2) = true := by decide

/-- A3 and the start of B8.3. -/
theorem test_lfsr : lfsrStep true 0x0001 = 0x4040 ∧ lfsrStep true 0x7FFF = 0x3FBF ∧ lfsrStep false 0x0001 = 0x4000 ∧
    lfsrStep false 0x7FFF = 0x3FFF ∧ lfsrStep true 0x3FBF = 0x1F9F ∧ lfsrStep true 0x0181 = 0x40C0 := by decide

/-- R272: the trigger tick of channel 4 leaves ncnt 1 and output 15; with the countdown at 0 a tick steps the LFSR (B8.2). -/
theorem test_noise_tick : ((chan 0 0 0xF0 0 0x80).tickNoise 0).1.ncnt = 1 ∧ ((chan 0 0 0xF0 0 0x80).tickNoise 0).2 = 15 ∧
    ({ chan 0 0 0xF0 0 0 with on := true, lfsr := 0x7FFF, ncnt := 0 }.tickNoise 0).1.lfsr = 0x3FFF ∧
    ({ chan 0 0 0xF0 0 0 with on := true, lfsr := 0x7FFF, ncnt := 0 }.tickNoise 0).1.ncnt = 2 := by decide

/-- The parameters of P6. -/
def slow : Params := { defaultParams with deviceHz := 10, sampleHz := 3, mixScale := 2 }

/-- P6: the first sample averages 0, 30 and 30; the carry makes the next countdown 4. B9.1 averages 15 and 0 to 7. -/
theorem test_mixer : Resampler.mixStep slow 15 { countdown := 1, rem := 0, acc := 30, count := 2 } =
      ({ countdown := 3, rem := 1, acc := 0, count := 0 }, some 20) ∧
    Resampler.mixStep slow 15 { countdown := 1, rem := 2, acc := 60, count := 2 } =
      ({ countdown := 4, rem := 0, acc := 0, count := 0 }, some 30) ∧
    (Resampler.mixStep { slow with mixScale := 1 } 0 { countdown := 1, rem := 0, acc := 15, count := 1 }).2 = some 7 := by decide

/-! ### The step and the host's placement of a word -/

/-- The step runs a placed word, from reset. -/
def stepOf (s : State) : State :=
  match step s with
  | .next t => t
  | _ => s

theorem test_step_runs_word : (stepOf (State.reset.withFetchWord 32 0x1FF2680)).power = true ∧
    (stepOf (State.reset.withFetchWord 32 0x0FF2600)).reads = [0x70] ∧
    (stepOf (State.reset.withFetchWord 32 0x2000010)).divSnap = 0x10 := by decide

theorem test_step_refuses : (stepOf (State.reset.withFetchWord 32 0x0FF4000)).refusals = [.outsideWindow] ∧
    (stepOf (State.reset.withFetchWord 32 0x2000200)).refusals = [.badEncoding] ∧
    (stepOf ({ State.reset with init := false }.withFetchWord 32 0x0FF4000)).refusals = [.beforeReset] := by decide

/-! ### Witnesses: a state and operands that meet every hypothesis of each statement that has one -/

theorem witness_encodeInvertsDecode : decode 0x0FF26A5 = .ok .rdNr52 ∧ (0x0FF26A5 : TWord).toNat < 2 ^ 24 ∧
    decode 0x1FF3FFF = .ok (.wrWave 15 0xFF) ∧ ¬ (0x1FF3FFF : TWord).toNat < 2 ^ 24 := by decide

theorem witness_decodedWordMatchesItsRow : decode 0x1FF2FFF = .ok (.wrUnusedFf28To2f 7 0xFF) := by decide

theorem witness_rowWordDecodesToItsRow : (0x1FF3ABC : TWord) &&& (Instr.wrWave 0 0).rowMask = (Instr.wrWave 0 0).rowMatch := by decide

/-- The words where the clauses meet: the addresses beside the window, the lowest and the highest reserved bit, and RESET's neighbours. -/
theorem witness_refusedWords : decode 0x0FF0FFF = .error .outsideWindow ∧ decode 0x1FF4000 = .error .outsideWindow ∧
    decode 0x1FFFFFF = .error .outsideWindow ∧ decode 0x2000200 = .error .badEncoding ∧ decode 0x2FFFFFF = .error .badEncoding ∧
    decode 0x3000001 = .error .badEncoding ∧ decode 0x3FFFFFF = .error .badEncoding ∧
    decode 0x20001FF = .ok (.advance true 0xFF) := by decide

/-- Reset with one word issued. -/
def issued (w : TWord) : State := { State.reset with pending := [w] }

theorem witness_stepRunsTheDecodedOperation : (issued 0x0FF2600).pending = 0x0FF2600 :: [] ∧ decode 0x0FF2600 = .ok .rdNr52 := by decide

theorem witness_stepRefusesAWordWithNoRow : (issued 0x0FF4000).init = true ∧ (issued 0x0FF4000).pending = 0x0FF4000 :: [] ∧
    decode 0x0FF4000 = .error .outsideWindow ∧ (issued 0x3000001).pending = 0x3000001 :: [] ∧
    decode 0x3000001 = .error .badEncoding := by decide

theorem witness_wordsBeforeResetAreRefused : ({ issued 0x2000000 with init := false } : State).init = false ∧
    ({ issued 0x2000000 with init := false } : State).pending = 0x2000000 :: [] ∧ (0x2000000 : TWord) ≠ 0x3000000 := by decide

theorem witness_stepIdlesWhenNothingIsIssued : State.reset.pending = [] := by decide

theorem witness_readBackAfterReset : fresh.init = true ∧ (0x7F : Byte).toNat < 128 ∧ (0x00 : Byte).toNat < 128 := by decide

/-- For PulseRegisterReads, WaveAndNoiseRegisterReads, MixerPowerAndWaveReads, UnusedAddresses, WaveRamWrites and MixerRegisterWrites, in
both power states. -/
theorem witness_admitted : fresh.init = true ∧ fresh.power = true ∧ State.reset.init = true ∧ State.reset.power = false := by decide

/-- For ReadsFollowTheBusDispatch: an address for every clause of R110, at both ends of its range. -/
theorem witness_readsFollowTheBusDispatch : fresh.init = true ∧ decode (packWord 0 0xFF30 0) = .ok (.rdWave 0) ∧
    decode (packWord 0 0xFF3F 0xFF) = .ok (.rdWave 15) ∧ decode (packWord 0 0xFF26 0) = .ok .rdNr52 ∧
    decode (packWord 0 0xFF24 0) = .ok .rdNr50 ∧ decode (packWord 0 0xFF25 0) = .ok .rdNr51 ∧
    decode (packWord 0 0xFF10 0) = .ok .rdNr10 ∧ decode (packWord 0 0xFF23 0) = .ok .rdNr44 ∧
    decode (packWord 0 0xFF15 0) = .ok .rdUnusedFf15 ∧ decode (packWord 0 0xFF2F 0) = .ok (.rdUnusedFf28To2f 7) := by decide

theorem witness_readsChangeNothing : Instr.rdNr11.isRead = true ∧ Instr.rdNr52.isRead = true ∧ fresh.init = true ∧
    Instr.rdNr11 ≠ .rdNr52 := by decide

/-- For PlainRegisterWrites, LengthRegisterWrites and TriggerRegisterWrites. -/
theorem witness_poweredWrite : fresh.init = true ∧ fresh.power = true := by decide

/-- A state for every outcome of the NRx4 write's length rule (R160): enabled before or not, full, empty, one and between. -/
theorem witness_triggerRegisterWrites : lenAfterTrigWrite 64 64 True True True True = 63 ∧ lenAfterTrigWrite 64 0 True True True True = 64 ∧
    lenAfterTrigWrite 64 5 True True False False = 5 ∧ lenAfterTrigWrite 64 1 False False True True = 64 ∧
    lenAfterTrigWrite 64 1 False False True False = 0 ∧ lenAfterTrigWrite 64 64 False False True True = 63 ∧
    lenAfterTrigWrite 64 0 True False True True = 64 ∧ lenAfterTrigWrite 64 64 True False True True = 64 := by decide

theorem witness_powerRegisterWrites : fresh.init = true ∧ (0x7F : Byte).toNat < 128 ∧ 128 ≤ (0x80 : Byte).toNat := by decide

theorem witness_poweredOffWritesAreDiscarded : (Instr.wrNr14 0xC0).isGatedWrite = true ∧ State.reset.init = true ∧
    State.reset.power = false := by decide

/-- For WritesFollowTheBusDispatch: an address for every clause of R111; the clause of `POWER = 0` from `State.reset`. -/
theorem witness_writesFollowTheBusDispatch : fresh.init = true ∧ State.reset.init = true ∧
    decode (packWord 1 0xFF30 1) = .ok (.wrWave 0 1) ∧ decode (packWord 1 0xFF3F 1) = .ok (.wrWave 15 1) ∧
    decode (packWord 1 0xFF26 0x7F) = .ok (.wrNr52 0x7F) ∧ decode (packWord 1 0xFF26 0x80) = .ok (.wrNr52 0x80) ∧
    decode (packWord 1 0xFF24 1) = .ok (.wrNr50 1) ∧ decode (packWord 1 0xFF25 1) = .ok (.wrNr51 1) ∧
    decode (packWord 1 0xFF10 1) = .ok (.wrNr10 1) ∧ decode (packWord 1 0xFF11 1) = .ok (.wrNr11 1) ∧
    decode (packWord 1 0xFF1B 1) = .ok (.wrNr31 1) ∧ decode (packWord 1 0xFF23 1) = .ok (.wrNr44 1) ∧
    decode (packWord 1 0xFF15 1) = .ok (.wrUnusedFf15 1) ∧ decode (packWord 1 0xFF2F 1) = .ok (.wrUnusedFf28To2f 7 1) := by decide

/-- All four channels playing, DACs on, no trigger pending, channel 1 sweeping up with a countdown of 1, envelope pace 1, no FS edge due at
`div = 0`, one due at `div = 0` when `divSnap` is 0x10. -/
def playing : State :=
  { fresh with
    ch1 := { chan 0x11 0x80 0xF1 0x00 0x41 with on := true, len := 2, envVol := 8, envPace := 1, envCnt := 1, swCnt := 1, shadow := 0x100,
                                                pcnt := 0x7FF }
    ch2 := { chan 0 0xC0 0x81 0xFF 0x07 with on := true, len := 64, envVol := 8, envPace := 1, envCnt := 2, pcnt := 0x7FE }
    ch3 := { chan 0x80 0 0x20 0xFF 0x07 with on := true, len := 256, pcnt := 0x7FF, idx := 31 }
    ch4 := { chan 0 0 0xF0 0x08 0x00 with on := true, len := 64, envVol := 15, lfsr := 0x7FFF, ncnt := 0 }
    mem := [(0xFF30, 0x12), (0xFF31, 0x34)] }

/-- `playing` with a trigger pending on every channel. -/
def triggered : State :=
  { playing with
    ch1 := { playing.ch1 with reg4 := 0x81 }
    ch2 := { playing.ch2 with reg4 := 0x87 }
    ch3 := { playing.ch3 with reg4 := 0x87 }
    ch4 := { playing.ch4 with reg4 := 0x80 } }

/-- `playing` with only channel 3's DAC on. -/
def waveOnly : State :=
  { playing with
    ch1 := { playing.ch1 with reg2 := 0x07 }
    ch2 := { playing.ch2 with reg2 := 0x07 }
    ch4 := { playing.ch4 with reg2 := 0x07 } }

theorem edgesClear_of (s : State) (h : (s.ch1.edge, s.ch2.edge, s.ch3.edge, s.ch4.edge) = (false, false, false, false)) :
    s.EdgesClear := by
  simp only [Prod.mk.injEq] at h
  intro c
  cases c
  · exact h.1
  · exact h.2.1
  · exact h.2.2.1
  · exact h.2.2.2

/-- For the ADVANCE statements with no FS edge. -/
theorem witness_noEdge : playing.init = true ∧ playing.EdgesClear ∧ ¬ edgeSeen playing false 0 :=
  ⟨by decide, edgesClear_of _ (by decide), by decide⟩

/-- An FS edge is due, executing step `n`. -/
def edgeAt (n : BitVec 3) : State := { playing with divSnap := 0x10, fsStep := n }

/-- `triggered` with an FS edge due, executing step `n`. -/
def triggeredAt (n : BitVec 3) : State := { triggered with divSnap := 0x10, fsStep := n }

/-- A record whose length is enabled and whose counter is at 1: a length clock turns it off. -/
def atOne (x : Channel) : Channel := { x with reg4 := x.reg4 ||| 0x40, len := 1 }

/-- A length clock is due, and every channel of `s` expires on it. -/
def expiring (s : State) : State :=
  { s with
    divSnap := 0x10
    fsStep := 0
    ch1 := atOne s.ch1
    ch2 := atOne s.ch2
    ch3 := atOne s.ch3
    ch4 := atOne s.ch4 }

/-- For AdvanceClocksTheFrameSequencer: both clauses, in both speed modes, the wrap of the step, and a sink that issues nothing, in a state with a
refusal recorded. -/
theorem witness_advanceClocksTheFrameSequencer : (edgeAt 7).init = true ∧ edgeSeen (edgeAt 7) false 0 ∧ ¬ edgeSeen (edgeAt 7) true 0 ∧
    edgeSeen { edgeAt 7 with divSnap := 0xFF } true 0xDF ∧ (refusedWith (edgeAt 7) .sinkReentry).sinkPlan = [] ∧
    (refusedWith (edgeAt 7) .sinkReentry).refusals = [.sinkReentry] := by decide

/-- For AdvanceChannelFrame: channels with and without a pending trigger, with the DAC on and off, and channel 1 with and without a pace. -/
theorem witness_advanceChannelFrame : triggered.init = true ∧ pendingTrigger (triggered.ch .c1) ∧ dacOn triggered .c1 ∧
    ¬ pendingTrigger (playing.ch .c4) ∧ ¬ dacOn waveOnly .c2 ∧ ¬ triggered.ch1.reg0.toNat / 16 % 8 = 0 ∧
    fresh.ch1.reg0.toNat / 16 % 8 = 0 := by decide

theorem witness_dacOffStopsTheChannel : fresh.init = true ∧ ¬ dacOn { fresh with ch1 := chan 0 0 0x07 0 0x80 } .c1 ∧
    ¬ dacOn { fresh with ch3 := chan 0x7F 0 0xF8 0 0 } .c3 ∧ dacOn playing .c1 ∧ dacOn playing .c3 := by decide

/-- For OffChannelHoldsItsState: all four channels off, and one that loses a length clock with its DAC off and takes it with its DAC on. -/
theorem witness_offChannelHoldsItsState : fresh.init = true ∧ fresh.EdgesClear ∧
    (∀ c, (fresh.ch c).on = false ∧ ¬ pendingTrigger (fresh.ch c)) ∧ 2 ≤ fresh.rs.countdown ∧
    (let x : Channel := { chan 0 0 0xF0 0 0x40 with len := 1 }
     x.on = false ∧ ¬ pendingTrigger x ∧ volumeDacOn x ∧ ¬ volumeDacOn { x with reg2 := 0x07 } ∧ lengthCounts (edgeAt 0) false 0 x ∧
       ¬ lengthCounts (edgeAt 1) false 0 x) :=
  ⟨by decide, edgesClear_of _ (by decide), fun c => by cases c <;> decide, by decide, by decide⟩

/-- For LengthClock: a counter that counts, one that expires, the negation of each condition of the clause, and channels that stay on, with and
without a trigger. -/
theorem witness_lengthClock : (edgeAt 0).EdgesClear ∧ edgeSeen (edgeAt 0) false 0 ∧ nextStepNo (edgeAt 0) % 2 = 0 ∧
    dacOn (edgeAt 0) .c1 ∧ lengthEnabled ((edgeAt 0).ch .c1) ∧ 0 < ((edgeAt 0).ch .c1).len ∧
    ¬ lengthEnabled ((edgeAt 0).ch .c2) ∧ ¬ nextStepNo (edgeAt 1) % 2 = 0 ∧ ¬ edgeSeen playing false 0 ∧
    (∀ c, lengthExpires (expiring playing) false 0 ((expiring playing).ch c)) ∧
    ((edgeAt 0).ch .c3).on = true ∧ dacOn (edgeAt 0) .c3 ∧ ¬ lengthExpires (edgeAt 0) false 0 ((edgeAt 0).ch .c3) ∧
    pendingTrigger ((triggeredAt 0).ch .c4) ∧ dacOn (triggeredAt 0) .c4 ∧
    ¬ lengthExpires (triggeredAt 0) false 0 ((triggeredAt 0).ch .c4) :=
  ⟨edgesClear_of _ (by decide), by decide, by decide, by decide, by decide, by decide, by decide, by decide, by decide,
    fun c => by cases c <;> decide, by decide⟩

/-- For PulseTriggerTick: triggers with no FS edge, on an envelope clock and on an expiring length clock, and channel 1 at pace 0, below
saturation and at it. -/
theorem witness_pulseTriggerTick : triggered.init = true ∧ triggered.EdgesClear ∧ ¬ edgeSeen triggered false 0 ∧
    (triggeredAt 7).EdgesClear ∧ envelopeClocked (triggeredAt 7) false 0 ∧
    volumeDacOn triggered.ch2 ∧ pendingTrigger triggered.ch2 ∧ volumeDacOn triggered.ch1 ∧ pendingTrigger triggered.ch1 ∧
    lengthExpires (expiring triggered) false 0 (expiring triggered).ch1 ∧ lengthExpires (expiring triggered) false 0 (expiring triggered).ch2 ∧
    pendingTrigger (expiring triggered).ch1 ∧ pendingTrigger (expiring triggered).ch2 ∧ ¬ lengthExpires (triggeredAt 7) false 0 triggered.ch1 ∧
    sweepPaceNo { triggered.ch1 with reg0 := 0x0F } = 0 ∧ sweepPaceNo triggered.ch1 = 1 ∧
    sweepTargetNo triggered.ch1 (periodNo triggered.ch1) = 0x180 ∧ sweepTargetNo triggered.ch1 0x555 = 0x7FF :=
  ⟨by decide, edgesClear_of _ (by decide), by decide, edgesClear_of _ (by decide), by decide⟩

/-- For PulsePeriodCounter: channel 1 rolls over, channel 2 does not, with and without an FS edge, and with one that turns them off. -/
theorem witness_pulsePeriodCounter : (∀ c, c = .c1 ∨ c = .c2 → volumeDacOn (playing.ch c) ∧ (playing.ch c).on = true ∧
    ¬ pendingTrigger (playing.ch c)) ∧ (playing.ch .c1).pcnt = 0x7FF ∧ (playing.ch .c2).pcnt ≠ 0x7FF ∧
    edgeSeen (edgeAt 2) false 0 ∧ ((edgeAt 2).advance false 0).ch1.on = true ∧ ((edgeAt 2).advance false 0).ch2.on = true ∧
    ((expiring playing).advance false 0).ch1.on = false ∧ ((expiring playing).advance false 0).ch2.on = false := by
  refine ⟨fun c h => ?_, by decide⟩
  rcases h with rfl | rfl <;> decide

/-- For SweepEvaluation: a sweep clock at step 2 that computes, one that counts, a saturating one, a trigger with and without an FS edge, and a tick
that does not sweep for each of its reasons (another step, no edge, pace 0, a length expiry). -/
theorem witness_sweepEvaluation : (edgeAt 2).init = true ∧ (edgeAt 2).EdgesClear ∧ volumeDacOn (edgeAt 2).ch1 ∧
    sweepPaceNo (edgeAt 2).ch1 ≠ 0 ∧ ¬ pendingTrigger (edgeAt 2).ch1 ∧ (edgeAt 2).ch1.on = true ∧
    sweepClocked (edgeAt 2) false 0 ∧ sweepClocked (edgeAt 6) false 0 ∧
    ¬ lengthExpires (edgeAt 2) false 0 (edgeAt 2).ch1 ∧ ¬ 2 ≤ (edgeAt 2).ch1.swCnt.toNat ∧
    sweepTargetNo playing.ch1 0x100 = 0x180 ∧ sweepTargetNo playing.ch1 0x555 = 0x7FF ∧
    pendingTrigger triggered.ch1 ∧ ¬ edgeSeen triggered false 0 ∧ sweepClocked (triggeredAt 2) false 0 ∧
    edgeSeen (edgeAt 4) false 0 ∧ ¬ sweepClocked (edgeAt 4) false 0 ∧ ¬ sweepClocked playing false 0 ∧
    sweepPaceNo { playing.ch1 with reg0 := 0x0F } = 0 ∧ lengthExpires (expiring playing) false 0 (expiring playing).ch1 ∧
    lengthExpires (expiring triggered) false 0 (expiring triggered).ch1 :=
  ⟨by decide, edgesClear_of _ (by decide), by decide⟩

/-- For EnvelopeClock: channel 1 steps its volume, channel 2 counts, channel 4 holds at pace 0. -/
theorem witness_envelopeClock : (edgeAt 7).init = true ∧ (edgeAt 7).EdgesClear ∧ volumeDacOn ((edgeAt 7).ch .c1) ∧
    ((edgeAt 7).ch .c1).on = true ∧ ¬ pendingTrigger ((edgeAt 7).ch .c1) ∧ edgeSeen (edgeAt 7) false 0 ∧ nextStepNo (edgeAt 7) = 7 ∧
    ((edgeAt 7).ch .c1).envPace ≠ 0 ∧ ((edgeAt 7).ch .c1).envCnt.toNat = 1 ∧ ((edgeAt 7).ch .c2).envCnt.toNat = 2 ∧
    ((edgeAt 7).ch .c4).envPace = 0 :=
  ⟨by decide, edgesClear_of _ (by decide), by decide⟩

/-- For WaveTriggerAndCursor: channel 3 playing, triggered and off, and expiring on a length clock with and without a trigger. -/
theorem witness_waveTriggerAndCursor : playing.init = true ∧ playing.EdgesClear ∧ waveDacOn playing.ch3 ∧ ¬ pendingTrigger playing.ch3 ∧
    playing.ch3.on = true ∧ waveDacOn triggered.ch3 ∧ pendingTrigger triggered.ch3 ∧ edgeSeen (triggeredAt 0) false 0 ∧
    ¬ lengthExpires (triggeredAt 0) false 0 (triggeredAt 0).ch3 ∧ lengthExpires (expiring playing) false 0 (expiring playing).ch3 ∧
    pendingTrigger (expiring triggered).ch3 ∧ ({ playing.ch3 with on := false } : Channel).on = false :=
  ⟨by decide, edgesClear_of _ (by decide), by decide⟩

theorem witness_waveOutputAverage : waveOnly.init = true ∧ waveOnly.EdgesClear ∧ ¬ edgeSeen waveOnly false 0 ∧ waveDacOn waveOnly.ch3 ∧
    waveOnly.ch3.on = true ∧ ¬ pendingTrigger waveOnly.ch3 ∧ ¬ volumeDacOn waveOnly.ch1 ∧ ¬ volumeDacOn waveOnly.ch2 ∧
    ¬ volumeDacOn waveOnly.ch4 ∧ 2 ≤ waveOnly.rs.countdown :=
  ⟨by decide, edgesClear_of _ (by decide), by decide⟩

/-- For NoiseTriggerTick: a trigger with no FS edge, on an envelope clock and on an expiring length clock. -/
theorem witness_noiseTriggerTick : triggered.init = true ∧ triggered.EdgesClear ∧ ¬ edgeSeen triggered false 0 ∧
    volumeDacOn triggered.ch4 ∧ pendingTrigger triggered.ch4 ∧ envelopeClocked (triggeredAt 7) false 0 ∧
    pendingTrigger (expiring triggered).ch4 ∧ lengthExpires (expiring triggered) false 0 (expiring triggered).ch4 :=
  ⟨by decide, edgesClear_of _ (by decide), by decide⟩

/-- For NoiseCountdownAndLfsr: a countdown of 0 and one of 1, with no FS edge, on an envelope clock and on an expiring length clock. -/
theorem witness_noiseCountdownAndLfsr : playing.init = true ∧ playing.EdgesClear ∧ volumeDacOn playing.ch4 ∧ playing.ch4.on = true ∧
    ¬ pendingTrigger playing.ch4 ∧ playing.ch4.ncnt = 0 ∧ ({ playing.ch4 with ncnt := 1 } : Channel).ncnt ≠ 0 ∧
    envelopeClocked (edgeAt 7) false 0 ∧ ¬ pendingTrigger (expiring playing).ch4 ∧
    lengthExpires (expiring playing) false 0 (expiring playing).ch4 :=
  ⟨by decide, edgesClear_of _ (by decide), by decide⟩

/-- For AdvanceMixesAndEmits: a sample is due, and none is; channel 3 plays, is triggered, is off after the ADVANCE, and has its DAC off. -/
theorem witness_advanceMixesAndEmits : playing.init = true ∧ 1 ≤ playing.rs.countdown ∧ playing.rs.countdown ≠ 1 ∧
    ({ playing.rs with countdown := 1 } : Resampler).countdown = 1 ∧ waveDacOn playing.ch3 ∧ (playing.advance false 0).ch3.on = true ∧
    pendingTrigger triggered.ch3 ∧ (triggered.advance false 0).ch3.on = true ∧ ((expiring playing).advance false 0).ch3.on = false ∧
    ¬ waveDacOn { playing.ch3 with reg0 := 0x7F } := by decide

/-- A sample is due. -/
def sampleDue : State := { playing with rs := { countdown := 1, rem := 0, acc := 230, count := 22 } }

theorem witness_emittedSampleIsInRange : sampleDue.init = true ∧ sampleDue.ResamplerOk ∧
    exec (.advance false 0) sampleDue = .next (sampleDue.advance false 0) ∧
    (sampleDue.advance false 0).result = .advanced (some (10, 10)) :=
  ⟨by decide, ⟨by decide, by decide, by decide, by decide⟩, rfl, by decide⟩

/-- For SinkReentryIsRefused: an ADVANCE with a sample and one without. -/
theorem witness_sinkReentryIsRefused : sampleDue.init = true ∧ sampleDue.sinkPlan = [] ∧
    exec (.advance false 0) sampleDue = .next (sampleDue.advance false 0) ∧
    (sampleDue.advance false 0).samples ≠ sampleDue.samples ∧ (playing.advance false 0).samples = playing.samples :=
  ⟨by decide, by decide, rfl, by decide, by decide⟩

/-- For SampleCadence, with the parameters of P6: the first sample is due at the third ADVANCE. -/
theorem witness_sampleCadence : (State.resetWith slow).init = true ∧ slow.wellFormed = true ∧ 1 ≤ 1 ∧
    (State.resetWith slow).rs = { countdown := slow.deviceHz / slow.sampleHz, rem := 0, acc := 0, count := 0 } ∧
    1 * (slow.deviceHz / slow.sampleHz) + (1 - 1) * (slow.deviceHz % slow.sampleHz) / slow.sampleHz = 3 ∧
    7 * (slow.deviceHz / slow.sampleHz) + (7 - 1) * (slow.deviceHz % slow.sampleHz) / slow.sampleHz = 23 := by decide

theorem witness_panningAndMasterVolumeDoNothing : exec (.advance false 0) sampleDue = .next (sampleDue.advance false 0) ∧
    (sampleDue.advance false 0).result = .advanced (some (10, 10)) ∧ sampleDue.init = true :=
  ⟨rfl, by decide, by decide⟩

/-- Two states that agree on channel 2 and on what it reads, and differ elsewhere. -/
theorem witness_channelsDoNotReadEachOther :
    let s' : State := { playing with ch1 := Channel.zero, ch4 := Channel.zero }
    playing.ch .c2 = s'.ch .c2 ∧ playing.params = s'.params ∧ playing.divSnap = s'.divSnap ∧ playing.fsStep = s'.fsStep ∧
      playing.fsEdgeStep = s'.fsEdgeStep ∧ playing.mem = s'.mem ∧ playing.init = s'.init ∧
      exec (.advance false 0) playing = .next (playing.advance false 0) ∧ exec (.advance false 0) s' = .next (s'.advance false 0) :=
  ⟨by decide, by decide, by decide, by decide, by decide, by decide, by decide, rfl, rfl⟩

theorem witness_onFlagRises :
    let s : State := { fresh with ch1 := chan 0 0 0xF0 0 0x80 }
    exec (.advance false 0) s = .next (s.advance false 0) ∧ (s.ch .c1).on = false ∧ ((s.advance false 0).ch .c1).on = true :=
  ⟨rfl, by decide, by decide⟩

/-- An on flag falls at an ADVANCE by the DAC, by length expiry and by the sweep, and at an NRx4 write, a power-off and RESET. -/
theorem witness_onFlagFalls : (waveOnly.ch .c1).on = true ∧ ((waveOnly.advance false 0).ch .c1).on = false ∧
    (({ withLen fresh 1 0x40 with divSnap := 0x10 } : State).advance false 0).ch1.on = false ∧
    (({ edgeAt 2 with ch1 := { playing.ch1 with shadow := 0x7FE } } : State).advance false 0).ch1.on = false ∧
    (after (.wrNr14 0x40) (withLen odd 1 0)).ch1.on = false ∧ (after (.wrNr52 0) playing).ch1.on = false ∧
    (after .reset playing).ch1.on = false := by decide

theorem witness_onlyTheseChangeTheFrameSequencer : ((edgeAt 7).advance false 0).fsStep ≠ (edgeAt 7).fsStep ∧
    (after (.wrNr52 0x80) { odd with power := false }).fsStep ≠ odd.fsStep ∧ (after .reset odd).fsStep ≠ odd.fsStep := by decide

theorem witness_lengthRises : (fresh.ch .c1).len < ((after (.wrNr11 0x3F) fresh).ch .c1).len ∧
    (fresh.ch .c1).len < ((after (.wrNr14 0x80) fresh).ch .c1).len := by decide

theorem witness_frames : (after (.wrWave 0 1) fresh).mem ≠ fresh.mem ∧ (after .reset playing).mem ≠ playing.mem ∧
    (playing.advance false 0).rs ≠ playing.rs ∧ (after .reset sampleDue).rs ≠ sampleDue.rs := by decide

theorem witness_memoryStaysCanonical : playing.MemOk ∧ step (playing.pushWord 0x1FF3080) = exec (.wrWave 0 0x80) playing :=
  ⟨by rfl, rfl⟩

theorem witness_countersStayInRange : playing.LengthsOk ∧ playing.NoiseOk := by
  refine ⟨fun c => ?_, ?_⟩
  · cases c <;> decide
  · show playing.ch4.ncnt ≤ 917504
    decide

theorem witness_resamplerStaysInRange : sampleDue.params.wellFormed = true ∧ sampleDue.ResamplerOk :=
  ⟨by decide, by decide, by decide, by decide, by decide⟩

theorem witness_poweredOffStateStaysZero : State.reset.OffIsZero := fun _ => ⟨fun c => by cases c <;> decide, by decide, by decide⟩

theorem witness_layoutStays : State.reset.EdgesClear ∧ State.reset.LayoutOk ∧ step State.reset = .next State.reset :=
  ⟨edgesClear_of _ (by decide), by unfold State.LayoutOk; decide, rfl⟩

theorem witness_resetMeetsTheInvariants : defaultParams.wellFormed = true ∧ slow.wellFormed = true := by decide

end Sys2Proof.Tests
end

section
/-! The scope statements (spec/00_scope.md): what one step runs, and that no step stops the machine. -/

namespace Sys2Proof.Machine

/-- An admitted operation completes, or before RESET is refused with a next state (R312, R331). -/
theorem admitOp_has_next (f : State → State) (s : State) : ∃ t, admitOp f s = .next t :=
  ⟨_, (admitOp_next_iff f s _).mpr rfl⟩

/-- No operation faults or stops: RESET always completes (R330), every other one is an admitted effect. -/
theorem exec_has_next (i : Instr) (s : State) : ∃ t, exec i s = .next t := by
  by_cases hr : i = .reset
  · subst hr
    exact ⟨s.resetApu, rfl⟩
  · obtain ⟨f, hf⟩ := exec_is_admitOp i hr
    rw [hf]
    exact admitOp_has_next f s

/-- No step faults or stops, whatever the host issues. -/
theorem step_has_next (s : State) : ∃ t, step s = .next t := by
  obtain hidle | ⟨_, rest, i, _, _, hrun⟩ | ⟨_, _, _, _, _, hrefuse⟩ := step_cases s
  · exact ⟨_, hidle⟩
  · rw [hrun]
    exact exec_has_next i { s with pending := rest }
  · exact ⟨_, hrefuse⟩

/-- Settles O11: a step idles, refuses a word or runs an operation, and an operation is RESET or an admitted effect. -/
theorem noStepStops : Obligations.NoStepStops := ⟨step_has_next, exec_has_next⟩

/-- Settles O7, by the step's rule for a word that decodes. -/
theorem stepRunsTheDecodedOperation : Obligations.StepRunsTheDecodedOperation := step_of_decode

end Sys2Proof.Machine
end

section
/-! What an operation can do to the state, said once for the state invariants of spec/10_state.md: the effects of the operations, and
what they can do to one channel record. -/

namespace Sys2Proof.Machine

open Sys2Proof.Claims

/-! ### The effects of the operations -/

/-- What an admitted WRITE of a channel register can leave of the record of channel `c` (spec/41_channel_registers.md R150, R151, R160).
Slot 0 has an address for channels 1 and 3 only (spec/10_state.md R26). -/
inductive ChannelWrite (s : State) : Instr → Ch → Channel → Prop
  | store {i : Instr} (c : Ch) (j : Fin 5) (v : Byte) (hslot : j = 0 → c = .c1 ∨ c = .c3) :
      ChannelWrite s i c ((s.ch c).setReg j v)
  | length (c : Ch) (v : Byte) :
      ChannelWrite s (lengthWrite c v) c { s.ch c with reg1 := v, len := maxLen c - (v &&& lenMask c).toNat }
  | trigger (c : Ch) (v : Byte) :
      ChannelWrite s (triggerWrite c v) c ((s.ch c).trigWrite (lenClk s.nextStep) (maxLen c) v)

/-- What an operation can leave of the state `s`. -/
inductive Effect (s : State) : Instr → State → Prop
  /-- RESET (spec/70_reset_and_hazards.md R330). -/
  | reset : Effect s .reset s.resetApu
  /-- A refusal (spec/60_exceptions.md R312). -/
  | refuse {i : Instr} (r : RefusalReason) : Effect s i (s.refuse r)
  /-- A READ (spec/40_register_bank.md R110). -/
  | read {i : Instr} (b : Byte) : Effect s i (s.answerRead b)
  /-- A WRITE that is discarded: power-gated, or to an unused address (R113, R119). -/
  | discard {i : Instr} : Effect s i s.answerWrite
  /-- A WRITE of a channel register while powered on. -/
  | channel {i : Instr} (c : Ch) (x : Channel) (hp : s.power = true) (hw : ChannelWrite s i c x) :
      Effect s i (s.setCh c x).answerWrite
  /-- WR_NR50 while powered on (R124). -/
  | nr50 (v : Byte) (hp : s.power = true) : Effect s (.wrNr50 v) ({ s with nr50 := v } : State).answerWrite
  /-- WR_NR51 while powered on (R126). -/
  | nr51 (v : Byte) (hp : s.power = true) : Effect s (.wrNr51 v) ({ s with nr51 := v } : State).answerWrite
  /-- WR_NR52 (R122). -/
  | nr52 (v : Byte) : Effect s (.wrNr52 v) (s.writeNr52 v).answerWrite
  /-- WR_WAVE (R129). -/
  | wave (k : BitVec 4) (v : Byte) : Effect s (.wrWave k v) (s.storeWave k v).answerWrite
  /-- ADVANCE (spec/42_frame_sequencer.md R205). -/
  | advance (dsm : Bool) (div : Byte) : Effect s (.advance dsm div) (s.advance dsm div)

/-- The store of NRx1 and the length reload are one update of the record (R151). -/
theorem State.storeLength_eq (s : State) (c : Ch) (v : Byte) :
    s.storeLength c v = s.setCh c { s.ch c with reg1 := v, len := maxLen c - (v &&& lenMask c).toNat } := by
  cases c <;> rfl

theorem exec_lengthWrite (c : Ch) (v : Byte) (s : State) : exec (lengthWrite c v) s = gatedWriteOp (State.storeLength c v) s := by
  cases c <;> rfl

theorem exec_triggerWrite (c : Ch) (v : Byte) (s : State) : exec (triggerWrite c v) s = gatedWriteOp (State.trigWrite c v) s := by
  cases c <;> rfl

section
variable {s : State} {i : Instr} (hi : s.init = true) (hp : s.power = true)
include hi hp

theorem gatedWrite_effect {f : State → State} (he : exec i s = gatedWriteOp f s) (hf : Effect s i (f s).answerWrite) (t : State)
    (h : exec i s = .next t) : Effect s i t := by
  rw [he, gatedWriteOp_of_on f s hi hp] at h
  exact Host.Outcome.next.inj h ▸ hf

theorem registerStore_effect {c : Ch} {j : Fin 5} {v : Byte} (he : exec i s = gatedWriteOp (State.storeReg c j v) s)
    (hslot : j = 0 → c = .c1 ∨ c = .c3) (t : State) (h : exec i s = .next t) : Effect s i t :=
  gatedWrite_effect hi hp he (.channel c _ hp (.store c j v hslot)) t h

omit i in
theorem lengthWrite_effect (c : Ch) (v : Byte) (t : State) (h : exec (lengthWrite c v) s = .next t) :
    Effect s (lengthWrite c v) t :=
  gatedWrite_effect hi hp (exec_lengthWrite c v s)
    (State.storeLength_eq s c v ▸ .channel c _ hp (.length c v)) t h

omit i in
theorem triggerWrite_effect (c : Ch) (v : Byte) (t : State) (h : exec (triggerWrite c v) s = .next t) :
    Effect s (triggerWrite c v) t :=
  gatedWrite_effect hi hp (exec_triggerWrite c v s) (.channel c _ hp (.trigger c v)) t h

/-- The effect of every power-gated WRITE while powered on, by its register. -/
theorem exec_effect_of_isGatedWrite (hg : i.isGatedWrite = true) (t : State) (h : exec i s = .next t) : Effect s i t := by
  cases i with
  | wrNr10 _ | wrNr12 _ | wrNr13 _ | wrNr22 _ | wrNr23 _ | wrNr30 _ | wrNr32 _ | wrNr33 _ | wrNr42 _ | wrNr43 _ =>
    exact registerStore_effect hi hp rfl (by decide) t h
  | wrNr11 v => exact lengthWrite_effect hi hp .c1 v t h
  | wrNr21 v => exact lengthWrite_effect hi hp .c2 v t h
  | wrNr31 v => exact lengthWrite_effect hi hp .c3 v t h
  | wrNr41 v => exact lengthWrite_effect hi hp .c4 v t h
  | wrNr14 v => exact triggerWrite_effect hi hp .c1 v t h
  | wrNr24 v => exact triggerWrite_effect hi hp .c2 v t h
  | wrNr34 v => exact triggerWrite_effect hi hp .c3 v t h
  | wrNr44 v => exact triggerWrite_effect hi hp .c4 v t h
  | wrNr50 v => exact gatedWrite_effect hi hp (f := fun s => { s with nr50 := v }) rfl (.nr50 v hp) t h
  | wrNr51 v => exact gatedWrite_effect hi hp (f := fun s => { s with nr51 := v }) rfl (.nr51 v hp) t h
  | wrUnusedFf15 _ | wrUnusedFf1f _ | wrUnusedFf27 _ | wrUnusedFf28To2f _ _ =>
    exact gatedWrite_effect hi hp (f := fun s => s) rfl .discard t h
  | _ => exact absurd hg (by simp [Instr.isGatedWrite])

end

/-- Every operation has one of the effects. -/
theorem exec_effect {i : Instr} {s t : State} (h : exec i s = .next t) : Effect s i t := by
  obtain ⟨rfl, rfl⟩ | ⟨_, _, rfl⟩ | ⟨_, _, _, rfl⟩ | ⟨_, _, _, rfl⟩ | ⟨hi, hg, hp, _⟩ | ⟨_, v, rfl, rfl⟩ | ⟨_, k, v, rfl, rfl⟩ |
    ⟨_, dsm, div, rfl, rfl⟩ := exec_next_cases i s t h
  · exact .reset
  · exact .refuse _
  · exact .read _
  · exact .discard
  · exact exec_effect_of_isGatedWrite hi hp hg t h
  · exact .nr52 v
  · exact .wave k v
  · exact .advance dsm div

/-- What no refusal, no taking of a word and no operation breaks is kept by every step. -/
theorem step_keeps {P : State → Prop} (htake : ∀ s rest, P s → P { s with pending := rest })
    (heffect : ∀ i s t, P s → Effect s i t → P t) {s t : State} (hs : P s) (h : step s = .next t) : P t := by
  obtain hidle | ⟨w, rest, i, _, _, hrun⟩ | ⟨w, rest, e, _, _, hrefuse⟩ := step_cases s
  · rw [hidle] at h
    exact Host.Outcome.next.inj h ▸ hs
  · exact heffect i _ t (htake s rest hs) (exec_effect (hrun ▸ h))
  · rw [hrefuse] at h
    exact Host.Outcome.next.inj h ▸ heffect .reset _ _ (htake s rest hs) (.refuse _)

/-- Settles O10, by the step's rule for an empty queue. -/
theorem stepIdlesWhenNothingIsIssued : Obligations.StepIdlesWhenNothingIsIssued := step_of_nil

/-! ### What each effect leaves alone -/

/-- Neither power procedure touches wave RAM, the resampler or the parameters (spec/40_register_bank.md R120, R121). -/
theorem State.writeNr52_frame (s : State) (v : Byte) :
    (s.writeNr52 v).mem = s.mem ∧ (s.writeNr52 v).rs = s.rs ∧ (s.writeNr52 v).params = s.params := by
  cases hv : v.getLsbD 7
  · simp [State.writeNr52_of_off s v hv]
  · simp [State.writeNr52_of_on s v hv]

/-- Wave RAM is left alone but for RESET and its own WRITEs (spec/10_state.md R57). -/
theorem Effect.mem_cases {s t : State} {i : Instr} (h : Effect s i t) :
    t.mem = s.mem ∨ (i = .reset ∧ t.mem = []) ∨ ∃ k v, i = .wrWave k v ∧ t.mem = (s.storeWave k v).mem := by
  cases h with
  | reset => exact .inr (.inl ⟨rfl, rfl⟩)
  | wave k v => exact .inr (.inr ⟨k, v, rfl, rfl⟩)
  | nr52 v => exact .inl (s.writeNr52_frame v).1
  | _ => exact .inl (by simp)

/-- The resampler is left alone but for RESET and ADVANCE (R60). -/
theorem Effect.rs_cases {s t : State} {i : Instr} (h : Effect s i t) :
    t.rs = s.rs ∨ (i = .reset ∧ t = s.resetApu) ∨ ∃ dsm div, i = .advance dsm div ∧ t = s.advance dsm div := by
  cases h with
  | reset => exact .inr (.inl ⟨rfl, rfl⟩)
  | advance dsm div => exact .inr (.inr ⟨dsm, div, rfl, rfl⟩)
  | nr52 v => exact .inl (s.writeNr52_frame v).2.1
  | _ => exact .inl (by simp)

theorem Effect.params {s t : State} {i : Instr} (h : Effect s i t) : t.params = s.params := by
  cases h with
  | nr52 v => exact (s.writeNr52_frame v).2.2
  | _ => simp

theorem Effect.memOk (i : Instr) (s t : State) (hs : s.MemOk) (he : Effect s i t) : t.MemOk := by
  unfold State.MemOk
  obtain e | ⟨-, e⟩ | ⟨k, v, -, e⟩ := he.mem_cases <;> rw [e]
  · exact hs
  · rfl
  · exact s.storeWave_wf k v hs

/-- Settles O52: wave RAM changes by RESET, which empties it, and by its own WRITEs, which keep the canonical form. -/
theorem memoryStaysCanonical : Obligations.MemoryStaysCanonical := fun _ _ hs h =>
  step_keeps (P := State.MemOk) (fun _ _ hm => hm) Effect.memOk hs h

/-- Settles O51, from what each effect leaves alone. -/
theorem waveRamResamplerAndParametersFrames : Obligations.WaveRamResamplerAndParametersFrames := by
  intro i s t h
  have he := exec_effect h
  refine ⟨fun hne => ?_, fun hne => ?_, he.params⟩
  · obtain e | ⟨e, -⟩ | ⟨k, v, e, -⟩ := he.mem_cases
    · exact absurd e hne
    · exact .inr e
    · exact .inl ⟨k, v, e⟩
  · obtain e | ⟨e, -⟩ | ⟨dsm, div, e, -⟩ := he.rs_cases
    · exact absurd e hne
    · exact .inr e
    · exact .inl ⟨dsm, div, e⟩

/-! ### The resampler's ranges (spec/46_mixer_resampler.md R292 to R294) -/

/-- The ranges of R60 for a resampler with parameters `p`. -/
def Resampler.InRange (p : Params) (r : Resampler) : Prop :=
  1 ≤ r.countdown ∧ r.count + r.countdown ≤ p.q + 1 ∧ r.rem < p.sampleHz ∧ r.acc ≤ r.count * 60 * p.mixScale

theorem State.resamplerOk_iff (s : State) : s.ResamplerOk ↔ s.rs.InRange s.params := Iff.rfl

/-- `SAMPLE_HZ >= 1` and `Q >= 1` (spec/00_scope.md R7). -/
theorem paramsWellFormed_iff (p : Params) : p.wellFormed = true ↔ 1 ≤ p.sampleHz ∧ 1 ≤ p.q := by
  simp [Params.wellFormed, Params.q]

/-- A reload starts the next output cycle in range (R293, R294). -/
theorem Resampler.reload_inRange {p : Params} (hq : 1 ≤ p.q) {r : Resampler} (h : r.rem < p.sampleHz) : (r.reload p).InRange p := by
  refine ⟨?_, ?_, r.reload_rem_lt p h, ?_⟩
  · rw [r.reload_countdown]
    split <;> omega
  · rw [r.reload_countdown, r.reload_count]
    split <;> omega
  · rw [r.reload_acc]
    exact Nat.zero_le _

/-- A mix step of at most 60 keeps the ranges: it counts one cycle more, or it reloads. -/
theorem Resampler.mixStep_inRange {p : Params} (hq : 1 ≤ p.q) {sum : Nat} (hsum : sum ≤ 60) {r : Resampler} (h : r.InRange p) :
    (r.mixStep p sum).1.InRange p := by
  obtain ⟨hcd, hcount, hrem, hacc⟩ := h
  obtain ⟨hne, e⟩ | ⟨-, e⟩ := r.mixStep_cases p sum <;> rw [e]
  · refine ⟨?_, ?_, hrem, ?_⟩
    · show 1 ≤ r.countdown - 1
      omega
    · show r.count + 1 + (r.countdown - 1) ≤ p.q + 1
      omega
    · calc r.acc + p.mixScale * sum
          ≤ r.count * 60 * p.mixScale + p.mixScale * 60 := Nat.add_le_add hacc (Nat.mul_le_mul_left _ hsum)
        _ = (r.count + 1) * 60 * p.mixScale := by ring
  · exact Resampler.reload_inRange hq hrem

theorem State.advance_rs (dsm : Bool) (div : Byte) (s : State) :
    (s.advance dsm div).rs = (s.rs.mixStep s.params (s.fsClock dsm div).tickChannels.2).1 := by simp [State.advance]

/-- Settles O54: RESET loads `Q`, an ADVANCE is a mix step of outputs that sum to at most 60, and nothing else touches the resampler. -/
theorem resamplerStaysInRange : Obligations.ResamplerStaysInRange := by
  intro s t hwf hs h
  refine (step_keeps (P := fun u => u.params.wellFormed = true ∧ u.ResamplerOk) (fun _ _ hu => hu) ?_ ⟨hwf, hs⟩ h).2
  intro i s t ⟨hwf, hs⟩ he
  obtain ⟨hhz, hq⟩ := (paramsWellFormed_iff s.params).1 hwf
  rw [State.resamplerOk_iff, he.params]
  refine ⟨hwf, ?_⟩
  obtain e | ⟨-, rfl⟩ | ⟨dsm, div, -, rfl⟩ := he.rs_cases
  · exact e ▸ hs
  · exact ⟨hq, by simp, hhz, Nat.zero_le _⟩
  · rw [State.advance_rs]
    exact Resampler.mixStep_inRange hq (State.tickChannels_le _) hs

/-! ### The frame sequencer -/

theorem getLsbD_seven_iff (b : Byte) : b.getLsbD 7 = true ↔ 128 ≤ b.toNat := by revert b; decide

theorem getLsbD_eq_true_iff {w : Nat} (b : BitVec w) (n : Nat) : b.getLsbD n = true ↔ b.toNat / 2 ^ n % 2 = 1 := by
  simp [BitVec.getLsbD, Nat.testBit_eq_decide_div_mod_eq]

/-- The FS edge test, on numbers (spec/42_frame_sequencer.md R201). -/
theorem fsEdgeSeen_iff (s : State) (dsm : Bool) (div : Byte) :
    fsEdgeSeen s.params dsm s.divSnap div = true ↔ edgeSeen s dsm div := by
  have hfall (b : Byte) (n : Nat) : b.getLsbD n = false ↔ b.toNat / 2 ^ n % 2 = 0 := by
    rw [← Bool.not_eq_true, getLsbD_eq_true_iff]
    omega
  simp only [fsEdgeSeen, Bool.and_eq_true, Bool.not_eq_true', getLsbD_eq_true_iff, hfall]
  exact Iff.rfl

/-- Settles O49: of the effects only RESET, a power-on and the frame sequencer's clock touch `FS.step`. -/
theorem onlyTheseChangeTheFrameSequencer : Obligations.OnlyTheseChangeTheFrameSequencer := by
  intro i s t h hne
  cases exec_effect h with
  | reset => exact .inr (.inr ⟨rfl, rfl⟩)
  | nr52 v =>
    cases hv : v.getLsbD 7
    · simp [State.writeNr52_of_off s v hv] at hne
    · rw [State.writeNr52_of_on s v hv] at hne ⊢
      refine .inr (.inl ⟨v, rfl, (getLsbD_seven_iff v).1 hv, ?_⟩)
      simp only [State.answerWrite_fsStep, State.powerOn_fsStep] at hne ⊢
      split
      · rfl
      · next hkeep => exact absurd (if_neg hkeep) hne
  | advance dsm div =>
    rw [State.advance_fsStep, State.fsClock_fsStep] at hne ⊢
    split at hne
    · next hedge => exact .inl ⟨dsm, div, rfl, (fsEdgeSeen_iff s dsm div).1 hedge, if_pos hedge⟩
    · exact absurd rfl hne
  | _ => simp at hne

end Sys2Proof.Machine
end

section
/-! The invariants of the channel records (spec/10_state.md R25 to R27, R62, R63): what the steps of a tick keep, then what every operation
keeps, then the on flag. -/

namespace Sys2Proof.Machine

open Sys2Proof.Claims

/-! ### What a tick keeps, from what its steps keep -/

/-- `P` is kept by every step of a pulse tick behind the consumption of the edge flag (spec/43_pulse_channels.md R220 to R228). -/
structure Channel.PulseStable (sweeps : Bool) (P : Channel → Prop) : Prop where
  off : ∀ x, P x → P { x with on := false }
  trigger : ∀ x, P x → P (x.pulseTrigger sweeps)
  countLength : ∀ x, P x → P x.countLength
  sweep : sweeps = true → ∀ x, P x → P x.sweep
  envelope : ∀ x, P x → P x.envelope
  count : ∀ x, P x → P x.pulseCount

/-- `P` is kept by every step of a wave sub-tick behind the consumption of the edge flag (spec/44_wave_channel.md R250 to R253). -/
structure Channel.WaveStable (P : Channel → Prop) : Prop where
  off : ∀ x, P x → P { x with on := false }
  trigger : ∀ x, P x → P x.waveTrigger
  countLength : ∀ x, P x → P x.countLength
  count : ∀ x, P x → P x.waveCount

/-- `P` is kept by every step of a noise tick behind the consumption of the edge flag (spec/45_noise_channel.md R270 to R275). -/
structure Channel.NoiseStable (P : Channel → Prop) : Prop where
  off : ∀ x, P x → P { x with on := false }
  trigger : ∀ x, P x → P x.noiseTrigger
  countLength : ∀ x, P x → P x.countLength
  envelope : ∀ x, P x → P x.envelope
  count : ∀ x, P x → P x.noiseCount

/-- The record after the consumption of the edge flag and a channel's trigger step, which acts on a pending trigger. -/
def Channel.afterTrigger (trigger : Channel → Channel) (x : Channel) : Channel :=
  if x.trig then trigger x.takeEdge else x.takeEdge

/-- The record at the on gate of a tick with the DAC on: after the trigger step and the length clock. -/
def Channel.atOnGate (trigger : Channel → Channel) (step : BitVec 3) (x : Channel) : Channel :=
  (x.afterTrigger trigger).lengthClock (x.edge && lenClk step)

theorem Channel.tickPulse_atOnGate (sweeps : Bool) (t : DutyTable) (step : BitVec 3) (x : Channel) (h : x.volDac = true) :
    x.tickPulse sweeps t step = (x.atOnGate (Channel.pulseTrigger sweeps) step).pulsePlay t
      (sweeps && ((x.edge && swClk step) || x.trig)) (x.edge && envClk step) :=
  x.tickPulse_of_dacOn sweeps t step h

theorem Channel.tickWave_atOnGate (mem : List Host.Cell) (step : BitVec 3) (x : Channel) (h : x.waveDac = true) :
    x.tickWave mem step = (x.atOnGate Channel.waveTrigger step).wavePlay mem :=
  x.tickWave_of_dacOn mem step h

theorem Channel.tickNoise_atOnGate (step : BitVec 3) (x : Channel) (h : x.volDac = true) :
    x.tickNoise step = (x.atOnGate Channel.noiseTrigger step).noisePlay (x.edge && envClk step) :=
  x.tickNoise_of_dacOn step h

theorem Channel.wavePlay_fst (mem : List Host.Cell) (x : Channel) : (x.wavePlay mem).1 = if x.on then x.waveCount else x := by
  cases h : x.on <;> simp [Channel.wavePlay, h]

theorem Channel.noisePlay_fst (env : Bool) (x : Channel) :
    (x.noisePlay env).1 = if x.on then (x.envelopeClock env).noiseCount else x := by
  cases h : x.on <;> simp [Channel.noisePlay, h]

section
variable {P : Channel → Prop}

theorem Channel.lengthClock_keeps (h : ∀ x, P x → P x.countLength) (clk : Bool) (x : Channel) (hx : P x) : P (x.lengthClock clk) := by
  unfold Channel.lengthClock
  split
  · exact h x hx
  · exact hx

theorem Channel.envelopeClock_keeps (h : ∀ x, P x → P x.envelope) (clk : Bool) (x : Channel) (hx : P x) :
    P (x.envelopeClock clk) := by
  unfold Channel.envelopeClock
  split
  · exact h x hx
  · exact hx

theorem Channel.atOnGate_keeps {trigger : Channel → Channel} (ht : ∀ x, P x → P (trigger x)) (hc : ∀ x, P x → P x.countLength)
    (step : BitVec 3) (x : Channel) (hx : P x.takeEdge) : P (x.atOnGate trigger step) := by
  refine Channel.lengthClock_keeps hc _ _ ?_
  unfold Channel.afterTrigger
  split
  · exact ht _ hx
  · exact hx

theorem Channel.PulseStable.play {sweeps : Bool} (h : Channel.PulseStable sweeps P) (t : DutyTable) (sw env : Bool) (x : Channel)
    (hsw : sw = true → sweeps = true) (hx : P x) : P (x.pulsePlay t sw env).1 := by
  obtain ⟨-, e⟩ | ⟨-, hs, -, e⟩ | ⟨-, -, e⟩ := x.pulsePlay_cases t sw env <;> rw [e]
  · exact hx
  · exact h.sweep (hsw hs) x hx
  · refine h.count _ (Channel.envelopeClock_keeps h.envelope env _ ?_)
    split
    · next hs => exact h.sweep (hsw hs) x hx
    · exact hx

theorem Channel.PulseStable.tick {sweeps : Bool} (h : Channel.PulseStable sweeps P) (t : DutyTable) (step : BitVec 3) (x : Channel)
    (hx : P x.takeEdge) : P (x.tickPulse sweeps t step).1 := by
  cases hd : x.volDac
  · rw [x.tickPulse_of_dacOff sweeps t step hd]
    exact h.off _ hx
  · rw [x.tickPulse_atOnGate sweeps t step hd]
    exact h.play t _ _ _ (fun hsw => (Bool.and_eq_true_iff.1 hsw).1) (x.atOnGate_keeps h.trigger h.countLength step hx)

theorem Channel.WaveStable.tick (h : Channel.WaveStable P) (mem : List Host.Cell) (step : BitVec 3) (x : Channel)
    (hx : P x.takeEdge) : P (x.tickWave mem step).1 := by
  cases hd : x.waveDac
  · rw [x.tickWave_of_dacOff mem step hd]
    exact h.off _ hx
  · have hy := x.atOnGate_keeps h.trigger h.countLength step hx
    rw [x.tickWave_atOnGate mem step hd, Channel.wavePlay_fst]
    split
    · exact h.count _ hy
    · exact hy

theorem Channel.NoiseStable.tick (h : Channel.NoiseStable P) (step : BitVec 3) (x : Channel) (hx : P x.takeEdge) :
    P (x.tickNoise step).1 := by
  cases hd : x.volDac
  · rw [x.tickNoise_of_dacOff step hd]
    exact h.off _ hx
  · have hy := x.atOnGate_keeps h.trigger h.countLength step hx
    rw [x.tickNoise_atOnGate step hd, Channel.noisePlay_fst]
    split
    · exact h.count _ (Channel.envelopeClock_keeps h.envelope _ _ hy)
    · exact hy

end

/-! ### The tick of a channel by its number -/

/-- The record the tick of channel `c` leaves (spec/42_frame_sequencer.md R205). -/
def Channel.tickAs (c : Ch) (t : DutyTable) (mem : List Host.Cell) (step : BitVec 3) (x : Channel) : Channel :=
  match c with
  | .c1 => (x.tickPulse true t step).1
  | .c2 => (x.tickPulse false t step).1
  | .c3 => (x.tickWaveTwice mem step).1
  | .c4 => (x.tickNoise step).1

/-- `DAC(c)` of a record (spec/10_state.md R29). -/
def Channel.dacAs (c : Ch) (x : Channel) : Bool :=
  match c with
  | .c3 => x.waveDac
  | _ => x.volDac

theorem State.dac_eq (s : State) (c : Ch) : s.dac c = (s.ch c).dacAs c := by cases c <;> rfl

theorem State.advance_ch (dsm : Bool) (div : Byte) (s : State) (c : Ch) :
    (s.advance dsm div).ch c = ({ s.ch c with edge := (s.ch c).edge || fsEdgeSeen s.params dsm s.divSnap div } : Channel).tickAs c
      s.params.duty s.mem (s.fsClock dsm div).fsEdgeStep := by
  cases c
  · exact s.advance_ch1 dsm div
  · exact s.advance_ch2 dsm div
  · exact s.advance_ch3 dsm div
  · exact s.advance_ch4 dsm div

theorem Channel.WaveStable.tickTwice {P : Channel → Prop} (h : Channel.WaveStable P) (hedge : ∀ x, P x → P x.takeEdge)
    (mem : List Host.Cell) (step : BitVec 3) (x : Channel) (hx : P x.takeEdge) : P (x.tickWaveTwice mem step).1 :=
  h.tick mem step _ (hedge _ (h.tick mem step x hx))

/-! ### Slot 0, the edge flag and the length counter in a tick -/

/-- A tick never writes slot 0 or the edge flag once consumed, and never raises the length counter. -/
def Channel.TickedFrom (x y : Channel) : Prop := y.reg0 = x.reg0 ∧ y.edge = x.edge ∧ y.len ≤ x.len

theorem Channel.TickedFrom.refl (x : Channel) : x.TickedFrom x := ⟨rfl, rfl, le_rfl⟩

theorem Channel.pulseTrigger_frame (sweeps : Bool) (x : Channel) :
    x.pulseTrigger sweeps = ({ x.clearTrig with
      on := true
      idx := 0
      pcnt := (x.pulseTrigger sweeps).pcnt
      swCnt := if sweeps then 0 else x.swCnt
      shadow := if sweeps then (x.pulseTrigger sweeps).shadow else x.shadow } : Channel).latchEnvelope := by
  cases sweeps <;> rfl

section
variable (x y : Channel) (h : x.TickedFrom y)
include h

theorem Channel.TickedFrom.countLength : x.TickedFrom y.countLength := ⟨h.1, h.2.1, (Nat.sub_le _ _).trans h.2.2⟩

theorem Channel.TickedFrom.envelope : x.TickedFrom y.envelope := by rw [y.envelope_frame]; exact h

end

theorem Channel.tickedFrom_pulseStable (sweeps : Bool) (x : Channel) : Channel.PulseStable sweeps x.TickedFrom where
  off _ h := h
  trigger y h := by rw [y.pulseTrigger_frame]; exact h
  countLength y h := h.countLength
  sweep _ y h := by rw [y.sweep_frame]; exact h
  envelope y h := h.envelope
  count y h := by rw [y.pulseCount_frame]; exact h

theorem Channel.tickedFrom_waveStable (x : Channel) : Channel.WaveStable x.TickedFrom where
  off _ h := h
  trigger _ h := h
  countLength y h := h.countLength
  count y h := by rw [y.waveCount_frame]; exact h

theorem Channel.tickedFrom_noiseStable (x : Channel) : Channel.NoiseStable x.TickedFrom where
  off _ h := h
  trigger _ h := h
  countLength y h := h.countLength
  envelope y h := h.envelope
  count y h := by rw [y.noiseCount_frame]; exact h

theorem Channel.tickWave_from (mem : List Host.Cell) (step : BitVec 3) (x : Channel) :
    x.takeEdge.TickedFrom (x.tickWave mem step).1 :=
  x.takeEdge.tickedFrom_waveStable.tick mem step x (.refl _)

theorem Channel.tickAs_from (c : Ch) (t : DutyTable) (mem : List Host.Cell) (step : BitVec 3) (x : Channel) :
    x.takeEdge.TickedFrom (x.tickAs c t mem step) := by
  cases c with
  | c1 => exact (x.takeEdge.tickedFrom_pulseStable true).tick t step x (.refl _)
  | c2 => exact (x.takeEdge.tickedFrom_pulseStable false).tick t step x (.refl _)
  | c3 => exact x.takeEdge.tickedFrom_waveStable.tickTwice (fun _ h => ⟨h.1, rfl, h.2.2⟩) mem step x (.refl _)
  | c4 => exact x.takeEdge.tickedFrom_noiseStable.tick step x (.refl _)

/-! ### The noise countdown in a tick (spec/45_noise_channel.md R278) -/

theorem Channel.ncnt_noiseStable : Channel.NoiseStable fun x => x.ncnt ≤ 917504 where
  off _ h := h
  trigger x _ := x.noisePeriod_le
  countLength _ h := h
  envelope x h := by rw [x.envelope_frame]; exact h
  count x h := by
    unfold Channel.noiseCount
    split
    · exact x.noisePeriod_le
    · exact (Nat.sub_le _ _).trans h

/-! ### The unused fields in a tick (spec/10_state.md R25, R26, spec/43_pulse_channels.md R232) -/

/-- The layout of a pulse record; `sweeps` is true for channel 1, which alone has slot 0 and the sweep fields. -/
def Channel.PulseLayout (sweeps : Bool) (x : Channel) : Prop :=
  (sweeps = false → x.reg0 = 0 ∧ x.swCnt = 0 ∧ x.shadow = 0) ∧ x.lfsr = 0 ∧ x.ncnt = 0 ∧ x.idx.toNat < 8

/-- The layout of a wave record: no envelope, no sweep, no noise fields. -/
def Channel.WaveLayout (x : Channel) : Prop :=
  x.envVol = 0 ∧ x.envPace = 0 ∧ x.envDir = false ∧ x.envCnt = 0 ∧ x.swCnt = 0 ∧ x.shadow = 0 ∧ x.lfsr = 0 ∧ x.ncnt = 0

/-- The layout of a noise record: no slot 0, no sweep, no cursor. -/
def Channel.NoiseLayout (x : Channel) : Prop := x.reg0 = 0 ∧ x.swCnt = 0 ∧ x.shadow = 0 ∧ x.idx = 0 ∧ x.pcnt = 0

/-- The layout of the record of channel `c`. -/
def Channel.Layout : Ch → Channel → Prop
  | .c1 => Channel.PulseLayout true
  | .c2 => Channel.PulseLayout false
  | .c3 => Channel.WaveLayout
  | .c4 => Channel.NoiseLayout

theorem State.layoutOk_iff (s : State) : s.LayoutOk ↔ ∀ c, (s.ch c).Layout c := by
  constructor
  · rintro ⟨h20, h40, h1, ⟨hsw, hsh, h2⟩, h3, h4⟩ (_ | _ | _ | _)
    · exact ⟨nofun, h1⟩
    · exact ⟨fun _ => ⟨h20, hsw, hsh⟩, h2⟩
    · exact h3
    · exact ⟨h40, h4⟩
  · intro h
    obtain ⟨-, h1⟩ := h .c1
    obtain ⟨h2', h2⟩ := h .c2
    obtain ⟨h20, hsw, hsh⟩ := h2' rfl
    obtain ⟨h40, h4⟩ := h .c4
    exact ⟨h20, h40, h1, ⟨hsw, hsh, h2⟩, h .c3, h4⟩

/-- The duty index moves modulo 8 (spec/43_pulse_channels.md R226). -/
theorem Channel.pulseCount_idx_lt (x : Channel) (h : x.idx.toNat < 8) : x.pulseCount.idx.toNat < 8 := by
  unfold Channel.pulseCount
  split
  · exact (BitVec.toNat_and (x.idx + 1) 7 ▸ Nat.and_le_right).trans_lt (by decide)
  · exact h

theorem Channel.pulseLayout_stable (sweeps : Bool) : Channel.PulseStable sweeps (Channel.PulseLayout sweeps) where
  off _ h := h
  trigger x h := by
    obtain ⟨hs, hlfsr, hncnt, -⟩ := h
    rw [x.pulseTrigger_frame]
    refine ⟨fun hsw => ?_, hlfsr, hncnt, (by decide : (0 : BitVec 5).toNat < 8)⟩
    subst hsw
    exact hs rfl
  countLength _ h := h
  sweep hsw x h := by
    rw [x.sweep_frame]
    exact ⟨fun hf => (by cases hsw.symm.trans hf), h.2⟩
  envelope x h := by rw [x.envelope_frame]; exact h
  count x h := by
    obtain ⟨hs, hlfsr, hncnt, hidx⟩ := h
    rw [x.pulseCount_frame]
    exact ⟨hs, hlfsr, hncnt, x.pulseCount_idx_lt hidx⟩

theorem Channel.waveLayout_stable : Channel.WaveStable Channel.WaveLayout where
  off _ h := h
  trigger _ h := h
  countLength _ h := h
  count x h := by rw [x.waveCount_frame]; exact h

theorem Channel.noiseLayout_stable : Channel.NoiseStable Channel.NoiseLayout where
  off _ h := h
  trigger _ h := h
  countLength _ h := h
  envelope x h := by rw [x.envelope_frame]; exact h
  count x h := by rw [x.noiseCount_frame]; exact h

theorem Channel.tickAs_layout (c : Ch) (t : DutyTable) (mem : List Host.Cell) (step : BitVec 3) (x : Channel)
    (h : x.takeEdge.Layout c) : (x.tickAs c t mem step).Layout c := by
  cases c with
  | c1 => exact (Channel.pulseLayout_stable true).tick t step x h
  | c2 => exact (Channel.pulseLayout_stable false).tick t step x h
  | c3 => exact Channel.waveLayout_stable.tickTwice (fun _ h => h) mem step x h
  | c4 => exact Channel.noiseLayout_stable.tick step x h

/-! ### What an operation can do to one channel record -/

/-- After an operation a channel record is as before, or zero after RESET and a power-off, or as a WRITE of its registers leaves it, or as
the tick of an ADVANCE leaves it. -/
theorem Effect.ch_cases {s t : State} {i : Instr} (h : Effect s i t) (c : Ch) :
    t.ch c = s.ch c ∨ (t.ch c = Channel.zero ∧ (i = .reset ∨ ∃ v, i = .wrNr52 v ∧ v.getLsbD 7 = false)) ∨
      ChannelWrite s i c (t.ch c) ∨ ∃ dsm div, i = .advance dsm div ∧ t = s.advance dsm div := by
  cases h with
  | reset => exact .inr (.inl ⟨by cases c <;> rfl, .inl rfl⟩)
  | refuse | read | discard | nr50 | nr51 | wave => exact .inl rfl
  | channel d x hp hw =>
    by_cases hcd : c = d
    · subst hcd
      exact .inr (.inr (.inl ((s.ch_setCh_same c x).symm ▸ hw)))
    · exact .inl (s.ch_setCh_other d c x hcd)
  | nr52 v =>
    cases hv : v.getLsbD 7
    · rw [State.writeNr52_of_off s v hv]
      exact .inr (.inl ⟨s.powerOff_ch c, .inr ⟨v, rfl, hv⟩⟩)
    · rw [State.writeNr52_of_on s v hv]
      exact .inl (s.powerOn_ch c)
  | advance dsm div => exact .inr (.inr (.inr ⟨dsm, div, rfl, rfl⟩))

/-- `P` holds of a zero record and is kept by every WRITE of a channel's registers and by every tick, with or without an FS edge. -/
structure ChannelInvariant (P : Ch → Channel → Prop) : Prop where
  zero : ∀ c, P c Channel.zero
  store : ∀ c j v x, (j = 0 → c = .c1 ∨ c = .c3) → P c x → P c (x.setReg j v)
  length : ∀ c v x, P c x → P c { x with reg1 := v, len := maxLen c - (v &&& lenMask c).toNat }
  trigger : ∀ c clk v x, P c x → P c (x.trigWrite clk (maxLen c) v)
  tick : ∀ c t mem step e x, P c x → P c (({ x with edge := e } : Channel).tickAs c t mem step)

/-- An invariant of the channel records holds after every effect. -/
theorem ChannelInvariant.effect {P : Ch → Channel → Prop} (h : ChannelInvariant P) (i : Instr) (s t : State)
    (hs : ∀ c, P c (s.ch c)) (he : Effect s i t) (c : Ch) : P c (t.ch c) := by
  obtain e | ⟨e, -⟩ | hw | ⟨dsm, div, -, rfl⟩ := he.ch_cases c
  · exact e ▸ hs c
  · exact e ▸ h.zero c
  · generalize t.ch c = x at hw ⊢
    cases hw with
    | store _ j v hslot => exact h.store c j v _ hslot (hs c)
    | length _ v => exact h.length c v _ (hs c)
    | trigger _ v => exact h.trigger c _ v _ (hs c)
  · rw [State.advance_ch]
    exact h.tick c _ _ _ _ _ (hs c)

/-- An invariant of the channel records is kept by every step. -/
theorem ChannelInvariant.step {P : Ch → Channel → Prop} (h : ChannelInvariant P) {s t : State} (hs : ∀ c, P c (s.ch c))
    (hst : step s = .next t) (c : Ch) : P c (t.ch c) :=
  step_keeps (P := fun u => ∀ c, P c (u.ch c)) (fun _ _ hu => hu) h.effect hs hst c

theorem Channel.setReg_frame (x : Channel) (j : Fin 5) (v : Byte) :
    x.setReg j v = { x with
      reg0 := (x.setReg j v).reg0
      reg1 := (x.setReg j v).reg1
      reg2 := (x.setReg j v).reg2
      reg3 := (x.setReg j v).reg3
      reg4 := (x.setReg j v).reg4 } := by
  fin_cases j <;> rfl

theorem Channel.setReg_reg0 (x : Channel) (j : Fin 5) (v : Byte) (h : j ≠ 0) : (x.setReg j v).reg0 = x.reg0 := by
  fin_cases j
  · exact absurd rfl h
  all_goals rfl

theorem lengthsOk_channelInvariant : ChannelInvariant fun c x => x.len ≤ maxLen c where
  zero c := Nat.zero_le _
  store c j v x _ h := by rw [x.setReg_frame]; exact h
  length c v _ _ := (lenLoad_range c v).2
  trigger c clk v x h := x.trigWrite_len_le clk (maxLen c) v h
  tick c t mem step e x h := by
    obtain ⟨-, -, hlen⟩ := ({ x with edge := e } : Channel).tickAs_from c t mem step
    exact hlen.trans h

theorem noiseOk_channelInvariant : ChannelInvariant fun c x => c = .c4 → x.ncnt ≤ 917504 where
  zero c _ := Nat.zero_le _
  store c j v x _ h := by rw [x.setReg_frame]; exact h
  length c v _ h := h
  trigger c clk v x h := by rw [x.trigWrite_frame]; exact h
  tick c t mem step e x h hc := by
    subst hc
    exact Channel.ncnt_noiseStable.tick step _ (h rfl)

theorem edgesClear_channelInvariant : ChannelInvariant fun _ x => x.edge = false where
  zero _ := rfl
  store c j v x _ h := by rw [x.setReg_frame]; exact h
  length _ _ _ h := h
  trigger c clk v x h := by rw [x.trigWrite_frame]; exact h
  tick c t mem step e x _ := by
    obtain ⟨-, hedge, -⟩ := ({ x with edge := e } : Channel).tickAs_from c t mem step
    exact hedge

theorem layout_channelInvariant : ChannelInvariant fun c x => x.Layout c where
  zero c := by
    cases c with
    | c1 | c2 => exact ⟨fun _ => ⟨rfl, rfl, rfl⟩, rfl, rfl, by decide⟩
    | c3 => exact ⟨rfl, rfl, rfl, rfl, rfl, rfl, rfl, rfl⟩
    | c4 => exact ⟨rfl, rfl, rfl, rfl, rfl⟩
  store c j v x hslot h := by
    rw [x.setReg_frame]
    cases c with
    | c1 => exact ⟨nofun, h.2⟩
    | c2 => rw [x.setReg_reg0 j v (by rintro rfl; simp at hslot)]; exact h
    | c3 => exact h
    | c4 => rw [x.setReg_reg0 j v (by rintro rfl; simp at hslot)]; exact h
  length c v x h := by cases c <;> exact h
  trigger c clk v x h := by
    rw [x.trigWrite_frame]
    cases c <;> exact h
  tick c t mem step e x h := Channel.tickAs_layout c t mem step _ (by cases c <;> exact h)

/-- Settles O53: the range of the length counters and that of the noise countdown are invariants of the channel records. -/
theorem countersStayInRange : Obligations.CountersStayInRange := by
  intro s t hlen hncnt h
  refine ⟨lengthsOk_channelInvariant.step hlen h, noiseOk_channelInvariant.step (fun c hc => ?_) h .c4 rfl⟩
  subst hc
  exact hncnt

/-- Settles O56: the clear edge flag and the layout of its kind are invariants of the channel records. -/
theorem layoutStays : Obligations.LayoutStays := by
  intro s t hedge hlayout h
  exact ⟨edgesClear_channelInvariant.step hedge h, t.layoutOk_iff.2 (layout_channelInvariant.step (s.layoutOk_iff.1 hlayout) h)⟩

/-! ### The powered-off state (spec/10_state.md R63, spec/42_frame_sequencer.md R206) -/

theorem Channel.zero_volDac (e : Bool) : ({ Channel.zero with edge := e } : Channel).volDac = false := by
  show Channel.zero.volDac = false
  decide

theorem Channel.zero_waveDac (e : Bool) : ({ Channel.zero with edge := e } : Channel).waveDac = false := by
  show Channel.zero.waveDac = false
  decide

/-- A zero record has its DAC off and ticks to a zero record, with or without an FS edge. -/
theorem Channel.tickAs_zero (c : Ch) (t : DutyTable) (mem : List Host.Cell) (step : BitVec 3) (e : Bool) :
    ({ Channel.zero with edge := e } : Channel).tickAs c t mem step = Channel.zero := by
  have hwave (e : Bool) : (({ Channel.zero with edge := e } : Channel).tickWave mem step).1 = Channel.zero := by
    rw [Channel.tickWave_of_dacOff _ _ _ (Channel.zero_waveDac e)]
    rfl
  cases c with
  | c1 => exact congrArg Prod.fst (Channel.tickPulse_of_dacOff true t step _ (Channel.zero_volDac e))
  | c2 => exact congrArg Prod.fst (Channel.tickPulse_of_dacOff false t step _ (Channel.zero_volDac e))
  | c3 =>
    show ((({ Channel.zero with edge := e } : Channel).tickWave mem step).1.tickWave mem step).1 = Channel.zero
    rw [hwave e]
    exact hwave false
  | c4 => exact congrArg Prod.fst (Channel.tickNoise_of_dacOff step _ (Channel.zero_volDac e))

theorem Effect.offIsZero (i : Instr) (s t : State) (hs : s.OffIsZero) (he : Effect s i t) : t.OffIsZero := by
  intro hoff
  cases he with
  | reset => exact ⟨fun c => by cases c <;> rfl, rfl, rfl⟩
  | refuse | read | discard | wave => exact hs hoff
  | channel c x hp _ =>
    rw [State.answerWrite_power, State.setCh_power, hp] at hoff
    cases hoff
  | nr50 v hp | nr51 v hp => cases hp.symm.trans hoff
  | nr52 v =>
    cases hv : v.getLsbD 7
    · rw [State.writeNr52_of_off s v hv]
      exact ⟨s.powerOff_ch, rfl, rfl⟩
    · rw [State.writeNr52_of_on s v hv] at hoff
      cases hoff
  | advance dsm div =>
    rw [State.advance_power] at hoff
    obtain ⟨hch, h50, h51⟩ := hs hoff
    refine ⟨fun c => ?_, (s.advance_nr50 dsm div).trans h50, (s.advance_nr51 dsm div).trans h51⟩
    rw [State.advance_ch, hch c]
    exact Channel.tickAs_zero c _ _ _ _

/-- Settles O55: the gated WRITEs have no effect while powered off, and a zero record ticks to a zero record. -/
theorem poweredOffStateStaysZero : Obligations.PoweredOffStateStaysZero := fun _ _ hs h =>
  step_keeps (P := State.OffIsZero) (fun _ _ hu => hu) Effect.offIsZero hs h

end Sys2Proof.Machine
end

section
/-! The on flag (spec/10_state.md R27): what raises it and what lets it fall. -/

namespace Sys2Proof.Machine

open Sys2Proof.Claims

/-! ### The fields of the register bytes as numbers (spec/10_state.md R29, R30) -/

theorem toNat_extractLsb'_eq_div {w : Nat} (b : BitVec w) (start len : Nat) :
    (b.extractLsb' start len).toNat = b.toNat / 2 ^ start % 2 ^ len := by
  rw [BitVec.extractLsb'_toNat, Nat.shiftRight_eq_div_pow]

theorem Channel.trig_iff (x : Channel) : x.trig = true ↔ pendingTrigger x := getLsbD_seven_iff x.reg4

theorem Channel.lenEn_iff (x : Channel) : x.lenEn = true ↔ lengthEnabled x := getLsbD_eq_true_iff x.reg4 6

theorem Channel.volDac_iff (x : Channel) : x.volDac = true ↔ volumeDacOn x := by
  have h (b : Byte) : (b.extractLsb' 3 5 != 0) = true ↔ 8 ≤ b.toNat := by revert b; decide
  exact h x.reg2

theorem Channel.waveDac_iff (x : Channel) : x.waveDac = true ↔ waveDacOn x := getLsbD_seven_iff x.reg0

/-- `DAC(c)` as the claims say it. -/
theorem State.dacAs_iff (s : State) (c : Ch) : (s.ch c).dacAs c = true ↔ dacOn s c := by
  cases c with
  | c3 => simp [Channel.dacAs, dacOn, Channel.waveDac_iff]
  | c1 | c2 | c4 => simp [Channel.dacAs, dacOn, Channel.volDac_iff]

theorem Channel.sweepPace_ne_zero_iff (x : Channel) : x.sweepPace ≠ 0 ↔ x.reg0.toNat / 16 % 8 ≠ 0 := by
  rw [Ne, BitVec.toNat_eq, Channel.sweepPace, toNat_extractLsb'_eq_div]
  rfl

theorem Channel.sweepDown_eq_false_iff (x : Channel) : x.sweepDown = false ↔ x.reg0.toNat / 8 % 2 = 0 := by
  rw [← Bool.not_eq_true, Channel.sweepDown, getLsbD_eq_true_iff]
  omega

theorem Channel.sweepShift_eq (x : Channel) : x.sweepShift = x.reg0.toNat % 8 := by
  rw [Channel.sweepShift, toNat_extractLsb'_eq_div]
  simp

/-! ### The on flag at each step of a tick -/

/-- The length clock lets the on flag fall only by taking the counter from 1 to 0 (spec/43_pulse_channels.md R222). -/
theorem Channel.lengthClock_falls (clk : Bool) (x : Channel) (hon : x.on = true) (hoff : (x.lengthClock clk).on = false) :
    clk = true ∧ x.len = 1 ∧ (x.lengthClock clk).len = 0 := by
  obtain ⟨hclk, -, hpos, e⟩ | ⟨-, e⟩ := x.lengthClock_cases clk <;> rw [e] at hoff ⊢
  · simp only [Channel.countLength, hon] at hoff ⊢
    have hlen : x.len - 1 = 0 := by
      by_contra hne
      simp [hne] at hoff
    exact ⟨hclk, by omega, hlen⟩
  · cases hon.symm.trans hoff

/-- Behind the on gate stand the channels that were on or had a trigger pending (R221). -/
theorem Channel.atOnGate_on (trigger : Channel → Channel) (step : BitVec 3) (x : Channel)
    (h : (x.atOnGate trigger step).on = true) : x.on = true ∨ x.trig = true := by
  have hy : (x.afterTrigger trigger).on = true := Channel.lengthClock_on _ _ h
  cases ht : x.trig
  · rw [Channel.afterTrigger, ht] at hy
    exact .inl hy
  · exact .inr rfl

/-- A channel that is on falls before the on gate only by length expiry. -/
theorem Channel.atOnGate_falls {trigger : Channel → Channel}
    (htrigger : ∀ y, (trigger y).on = true ∧ (trigger y).len = y.len) (step : BitVec 3) (x : Channel) (hon : x.on = true)
    (hoff : (x.atOnGate trigger step).on = false) :
    x.edge = true ∧ x.len = 1 ∧ (x.atOnGate trigger step).len = 0 := by
  obtain ⟨hyon, hylen⟩ : (x.afterTrigger trigger).on = true ∧ (x.afterTrigger trigger).len = x.len := by
    unfold Channel.afterTrigger
    split
    · exact htrigger x.takeEdge
    · exact ⟨hon, rfl⟩
  obtain ⟨hclk, hlen, hzero⟩ := Channel.lengthClock_falls _ _ hyon hoff
  exact ⟨(Bool.and_eq_true_iff.1 hclk).1, hylen ▸ hlen, hzero⟩

theorem Channel.pulseTrigger_on_len (sweeps : Bool) (x : Channel) :
    (x.pulseTrigger sweeps).on = true ∧ (x.pulseTrigger sweeps).len = x.len := by
  rw [x.pulseTrigger_frame]
  exact ⟨rfl, rfl⟩

theorem Channel.waveTrigger_on_len (x : Channel) : x.waveTrigger.on = true ∧ x.waveTrigger.len = x.len := ⟨rfl, rfl⟩

theorem Channel.noiseTrigger_on_len (x : Channel) : x.noiseTrigger.on = true ∧ x.noiseTrigger.len = x.len := ⟨rfl, rfl⟩

/-- The shadow period `y.shadow` overflows under the increasing sweep that NR10 of `x` sets (spec/43_pulse_channels.md R227). -/
def Channel.SweepOverflows (x y : Channel) : Prop :=
  x.reg0.toNat / 16 % 8 ≠ 0 ∧ x.reg0.toNat / 8 % 2 = 0 ∧
    0x7FF ≤ y.shadow.toNat + y.shadow.toNat / 2 ^ (x.reg0.toNat % 8)

/-- A decreasing sweep never saturates: the shift is at most 7, so from 0x7FF it takes away at least 15. -/
theorem Channel.sweepTarget_lt_of_sweepDown (x : Channel) (h : x.sweepDown = true) : x.sweepTarget < 0x7FF := by
  have hp := x.shadow.isLt
  have hshift : x.sweepShift < 8 := (x.reg0.extractLsb' 0 3).isLt
  have hpow : 2 ^ x.sweepShift ≤ 2 ^ 7 := Nat.pow_le_pow_right (by decide) (by omega)
  have hd : x.shadow.toNat / 2 ^ 7 ≤ x.shadow.toNat / 2 ^ x.sweepShift := Nat.div_le_div_left hpow (by positivity)
  simp only [Channel.sweepTarget, h, if_true]
  omega

/-- A sweep lets the on flag fall only by an overflow of an increasing sweep. -/
theorem Channel.sweep_falls (x : Channel) (hon : x.on = true) (hoff : x.sweep.on = false) : x.SweepOverflows x.sweep := by
  obtain ⟨-, e⟩ | ⟨hpace, -, e⟩ | ⟨-, -, e⟩ := x.sweep_cases <;> rw [e] at hoff ⊢
  · cases hon.symm.trans hoff
  · obtain ⟨hsat, e⟩ | ⟨-, e⟩ := x.sweepCompute_cases <;> rw [e] at hoff ⊢
    · have hup : x.sweepDown = false := by
        by_contra hdown
        have := x.sweepTarget_lt_of_sweepDown (by simpa using hdown)
        omega
      refine ⟨x.sweepPace_ne_zero_iff.1 hpace, x.sweepDown_eq_false_iff.1 hup, ?_⟩
      rw [← x.sweepShift_eq]
      simp only [Channel.sweepTarget, hup, Bool.false_eq_true, if_false] at hsat
      show 0x7FF ≤ x.shadow.toNat + x.shadow.toNat / 2 ^ x.sweepShift
      omega
    · cases hon.symm.trans hoff
  · cases hon.symm.trans hoff

theorem Channel.pulseVoice_on (t : DutyTable) (env : Bool) (x : Channel) : (x.pulseVoice t env).1.on = x.on := by
  show (x.envelopeClock env).pulseCount.on = x.on
  rw [Channel.pulseCount_frame, Channel.envelopeClock_frame]

theorem Channel.wavePlay_on (mem : List Host.Cell) (x : Channel) : (x.wavePlay mem).1.on = x.on := by
  rw [Channel.wavePlay_fst, Channel.waveCount_frame]
  split <;> rfl

theorem Channel.noisePlay_on (env : Bool) (x : Channel) : (x.noisePlay env).1.on = x.on := by
  rw [Channel.noisePlay_fst, Channel.noiseCount_frame, Channel.envelopeClock_frame]
  split <;> rfl

theorem Channel.wavePlay_len (mem : List Host.Cell) (x : Channel) : (x.wavePlay mem).1.len = x.len := by
  rw [Channel.wavePlay_fst, Channel.waveCount_frame]
  split <;> rfl

theorem Channel.noisePlay_len (env : Bool) (x : Channel) : (x.noisePlay env).1.len = x.len := by
  rw [Channel.noisePlay_fst, Channel.noiseCount_frame, Channel.envelopeClock_frame]
  split <;> rfl

/-! ### A channel is on after a tick only if it was on or had a trigger pending, with the DAC on -/

theorem Channel.tickPulse_on (sweeps : Bool) (t : DutyTable) (step : BitVec 3) (x : Channel)
    (h : (x.tickPulse sweeps t step).1.on = true) : x.volDac = true ∧ (x.on = true ∨ x.trig = true) := by
  cases hd : x.volDac
  · rw [x.tickPulse_of_dacOff sweeps t step hd] at h
    cases h
  · rw [x.tickPulse_atOnGate sweeps t step hd] at h
    refine ⟨rfl, x.atOnGate_on (Channel.pulseTrigger sweeps) step ?_⟩
    generalize x.atOnGate (Channel.pulseTrigger sweeps) step = y at h ⊢
    obtain ⟨-, e⟩ | ⟨hon, -⟩ | ⟨hon, -⟩ :=
      y.pulsePlay_cases t (sweeps && ((x.edge && swClk step) || x.trig)) (x.edge && envClk step)
    · rwa [e] at h
    · exact hon
    · exact hon

theorem Channel.tickWave_on (mem : List Host.Cell) (step : BitVec 3) (x : Channel) (h : (x.tickWave mem step).1.on = true) :
    x.waveDac = true ∧ (x.on = true ∨ x.trig = true) := by
  cases hd : x.waveDac
  · rw [x.tickWave_of_dacOff mem step hd] at h
    cases h
  · rw [x.tickWave_atOnGate mem step hd, Channel.wavePlay_on] at h
    exact ⟨rfl, x.atOnGate_on _ step h⟩

theorem Channel.tickNoise_on (step : BitVec 3) (x : Channel) (h : (x.tickNoise step).1.on = true) :
    x.volDac = true ∧ (x.on = true ∨ x.trig = true) := by
  cases hd : x.volDac
  · rw [x.tickNoise_of_dacOff step hd] at h
    cases h
  · rw [x.tickNoise_atOnGate step hd, Channel.noisePlay_on] at h
    exact ⟨rfl, x.atOnGate_on _ step h⟩

/-- No sub-tick sets the trigger bit. -/
theorem Channel.trig_waveStable : Channel.WaveStable fun y => y.trig = false where
  off _ h := h
  trigger y _ := by
    show (y.reg4 &&& 0x7F).getLsbD 7 = false
    simp
  countLength _ h := h
  count y h := by rw [y.waveCount_frame]; exact h

theorem Channel.tickAs_on (c : Ch) (t : DutyTable) (mem : List Host.Cell) (step : BitVec 3) (x : Channel)
    (h : (x.tickAs c t mem step).on = true) : x.dacAs c = true ∧ (x.on = true ∨ x.trig = true) := by
  cases c with
  | c1 => exact x.tickPulse_on true t step h
  | c2 => exact x.tickPulse_on false t step h
  | c3 =>
    obtain ⟨hdac, hon | htrig⟩ := Channel.tickWave_on mem step _ h
    · exact x.tickWave_on mem step hon
    · obtain ⟨hreg0, -, -⟩ := x.tickWave_from mem step
      refine ⟨(congrArg (BitVec.getLsbD · 7) hreg0).symm.trans hdac, .inr ?_⟩
      by_contra hno
      have := Channel.trig_waveStable.tick mem step x (Bool.eq_false_iff.2 hno)
      cases htrig.symm.trans this
  | c4 => exact x.tickNoise_on step h

/-! ### A channel that was on is off after a tick only by the DAC, length expiry or a sweep overflow -/

theorem Channel.tickPulse_falls (sweeps : Bool) (t : DutyTable) (step : BitVec 3) (x : Channel) (hon : x.on = true)
    (hoff : (x.tickPulse sweeps t step).1.on = false) :
    x.volDac = false ∨ (x.len = 1 ∧ (x.tickPulse sweeps t step).1.len = 0) ∨
      (sweeps = true ∧ x.SweepOverflows (x.tickPulse sweeps t step).1) := by
  cases hd : x.volDac
  · exact .inl rfl
  rw [x.tickPulse_atOnGate sweeps t step hd] at hoff ⊢
  have hreg0 : (x.atOnGate (Channel.pulseTrigger sweeps) step).reg0 = x.reg0 :=
    (x.atOnGate_keeps (x.takeEdge.tickedFrom_pulseStable sweeps).trigger (x.takeEdge.tickedFrom_pulseStable sweeps).countLength
      step (.refl _)).1
  have hgate := x.atOnGate_falls (Channel.pulseTrigger_on_len sweeps) step hon
  generalize x.atOnGate (Channel.pulseTrigger sweeps) step = y at hoff hreg0 hgate ⊢
  obtain ⟨hyoff, e⟩ | ⟨hyon, hsw, hsoff, e⟩ | ⟨-, hyon, e⟩ :=
    Channel.pulsePlay_cases t (sweeps && ((x.edge && swClk step) || x.trig)) (x.edge && envClk step) y <;> rw [e] at hoff ⊢
  · obtain ⟨-, hlen, hzero⟩ := hgate hyoff
    exact .inr (.inl ⟨hlen, hzero⟩)
  · refine .inr (.inr ⟨(Bool.and_eq_true_iff.1 hsw).1, ?_⟩)
    have := y.sweep_falls hyon hsoff
    rwa [Channel.SweepOverflows, hreg0] at this
  · rw [Channel.pulseVoice_on] at hoff
    cases hyon.symm.trans hoff

theorem Channel.tickWave_falls (mem : List Host.Cell) (step : BitVec 3) (x : Channel) (hon : x.on = true)
    (hoff : (x.tickWave mem step).1.on = false) :
    x.waveDac = false ∨ (x.edge = true ∧ x.len = 1 ∧ (x.tickWave mem step).1.len = 0) := by
  cases hd : x.waveDac
  · exact .inl rfl
  rw [x.tickWave_atOnGate mem step hd, Channel.wavePlay_on] at hoff
  rw [x.tickWave_atOnGate mem step hd, Channel.wavePlay_len]
  exact .inr (x.atOnGate_falls Channel.waveTrigger_on_len step hon hoff)

theorem Channel.tickNoise_falls (step : BitVec 3) (x : Channel) (hon : x.on = true) (hoff : (x.tickNoise step).1.on = false) :
    x.volDac = false ∨ (x.len = 1 ∧ (x.tickNoise step).1.len = 0) := by
  cases hd : x.volDac
  · exact .inl rfl
  rw [x.tickNoise_atOnGate step hd, Channel.noisePlay_on] at hoff
  rw [x.tickNoise_atOnGate step hd, Channel.noisePlay_len]
  exact .inr (x.atOnGate_falls Channel.noiseTrigger_on_len step hon hoff).2

/-- Of the two sub-ticks the second has no edge to clock the length counter (spec/44_wave_channel.md R252). -/
theorem Channel.tickWaveTwice_falls (mem : List Host.Cell) (step : BitVec 3) (x : Channel) (hon : x.on = true)
    (hoff : (x.tickWaveTwice mem step).1.on = false) :
    x.waveDac = false ∨ (x.len = 1 ∧ (x.tickWaveTwice mem step).1.len = 0) := by
  obtain ⟨hreg0, hedge, -⟩ := x.tickWave_from mem step
  obtain ⟨-, -, hlen⟩ := (x.tickWave mem step).1.tickWave_from mem step
  cases ha : (x.tickWave mem step).1.on
  · obtain hdac | ⟨-, hone, hzero⟩ := x.tickWave_falls mem step hon ha
    · exact .inl hdac
    · exact .inr ⟨hone, Nat.le_zero.1 (hlen.trans hzero.le)⟩
  · obtain hdac | ⟨hedge', -⟩ := Channel.tickWave_falls mem step _ ha hoff
    · exact .inl ((congrArg (BitVec.getLsbD · 7) hreg0).symm.trans hdac)
    · cases hedge'.symm.trans hedge

theorem Channel.tickAs_falls (c : Ch) (t : DutyTable) (mem : List Host.Cell) (step : BitVec 3) (x : Channel) (hon : x.on = true)
    (hoff : (x.tickAs c t mem step).on = false) :
    x.dacAs c = false ∨ (x.len = 1 ∧ (x.tickAs c t mem step).len = 0) ∨
      (c = .c1 ∧ x.SweepOverflows (x.tickAs c t mem step)) := by
  cases c with
  | c1 => exact (x.tickPulse_falls true t step hon hoff).imp_right (Or.imp_right (And.imp_left fun _ => rfl))
  | c2 => exact (x.tickPulse_falls false t step hon hoff).imp_right (Or.imp_right (And.imp_left nofun))
  | c3 => exact (x.tickWaveTwice_falls mem step hon hoff).imp_right .inl
  | c4 => exact (x.tickNoise_falls step hon hoff).imp_right .inl

/-! ### The on flag at a WRITE of the channel's registers -/

/-- An NRx4 write lets the on flag fall only by quirk 1: it enables length with the counter at 1 (spec/41_channel_registers.md R160). -/
theorem Channel.trigWrite_falls (clk : Bool) (m : Nat) (v : Byte) (x : Channel) (hon : x.on = true)
    (hoff : (x.trigWrite clk m v).on = false) : v.getLsbD 6 = true ∧ x.len = 1 ∧ x.lenEn = false := by
  rw [Channel.trigWrite, Channel.quirk3_frame, Channel.quirk2_frame] at hoff
  change (x.quirk1 clk v).on = false at hoff
  unfold Channel.quirk1 at hoff
  split at hoff
  · next hq =>
    simp only [Bool.and_eq_true, Bool.not_eq_true', decide_eq_true_eq] at hq
    obtain ⟨⟨⟨-, hv⟩, hen⟩, hpos⟩ := hq
    refine ⟨hv, ?_, hen⟩
    by_contra hne
    have : x.len - 1 ≠ 0 := by omega
    simp [Channel.countLength, this, hon] at hoff
  · cases hon.symm.trans hoff

/-- A WRITE of the channel's registers never raises the on flag. -/
theorem ChannelWrite.on {s : State} {i : Instr} {c : Ch} {x : Channel} (h : ChannelWrite s i c x) (hx : x.on = true) :
    (s.ch c).on = true := by
  cases h with
  | store _ j v =>
    rw [Channel.setReg_frame] at hx
    exact hx
  | length => exact hx
  | trigger _ v => exact Channel.trigWrite_on _ _ v _ hx

/-- A WRITE of the channel's registers lets the on flag fall only if it is an NRx4 write that enables length with the counter at 1. -/
theorem ChannelWrite.falls {s : State} {i : Instr} {c : Ch} {x : Channel} (h : ChannelWrite s i c x) (hon : (s.ch c).on = true)
    (hoff : x.on = false) :
    ∃ v, i = triggerWrite c v ∧ v.toNat / 64 % 2 = 1 ∧ (s.ch c).len = 1 ∧ ¬ lengthEnabled (s.ch c) := by
  cases h with
  | store _ j v =>
    rw [Channel.setReg_frame] at hoff
    cases hon.symm.trans hoff
  | length => cases hon.symm.trans hoff
  | trigger _ v =>
    obtain ⟨hv, hlen, hen⟩ := Channel.trigWrite_falls _ _ v _ hon hoff
    refine ⟨v, rfl, (getLsbD_eq_true_iff v 6).1 hv, hlen, fun h => ?_⟩
    cases ((s.ch c).lenEn_iff.2 h).symm.trans hen

/-- Settles O47: of what an operation can do to a record only a tick raises the on flag, and it does so by a trigger. -/
theorem onFlagRisesOnlyByATriggerTick : Obligations.OnFlagRisesOnlyByATriggerTick := by
  intro i s t c h hoff hon
  obtain e | ⟨e, -⟩ | hw | ⟨dsm, div, rfl, rfl⟩ := (exec_effect h).ch_cases c
  · cases (e ▸ hon).symm.trans hoff
  · rw [e] at hon
    cases hon
  · cases (hw.on hon).symm.trans hoff
  · rw [State.advance_ch] at hon
    obtain ⟨hdac, hon' | htrig⟩ := Channel.tickAs_on c _ _ _ _ hon
    · cases hon'.symm.trans hoff
    · refine ⟨⟨dsm, div, rfl⟩, (s.ch c).trig_iff.1 htrig, (State.dacAs_iff s c).1 ?_⟩
      cases c <;> exact hdac

/-- Settles O48: what an operation can do to a record, with the ways each of them lets the on flag fall. -/
theorem onFlagFallsOnlyByTheListedEvents : Obligations.OnFlagFallsOnlyByTheListedEvents := by
  intro i s t c h hon hoff
  obtain e | ⟨-, rfl | ⟨v, rfl, hv⟩⟩ | hw | ⟨dsm, div, rfl, rfl⟩ := (exec_effect h).ch_cases c
  · cases hon.symm.trans (e ▸ hoff)
  · exact .inr (.inr (.inr rfl))
  · refine .inr (.inr (.inl ⟨v, rfl, ?_⟩))
    by_contra hge
    cases ((getLsbD_seven_iff v).2 (by omega)).symm.trans hv
  · exact .inr (.inl (hw.falls hon hoff))
  · refine .inl ⟨⟨dsm, div, rfl⟩, ?_⟩
    rw [State.advance_ch] at hoff ⊢
    obtain hdac | hlen | ⟨rfl, hover⟩ := Channel.tickAs_falls c _ _ _ _ (by exact hon) hoff
    · refine .inl fun hd => absurd ((State.dacAs_iff s c).2 hd) ?_
      have : (s.ch c).dacAs c = false := by cases c <;> exact hdac
      simp [this]
    · exact .inr (.inl hlen)
    · rw [State.advance_ch1]
      exact .inr (.inr ⟨rfl, hover⟩)

end Sys2Proof.Machine
end

section
/-! READs (spec/20_memory.md R76): the byte each one answers, and the part of the state that byte depends on. -/

namespace Sys2Proof.Machine

open Sys2Proof.Claims

/-- What the byte a READ answers can be, as a function of the state (spec/40_register_bank.md R110, R118, R123, R125, R127, R128): NR52's
own READ alone shows `State.nr52Value`. -/
inductive ReadByte : Instr → (State → Byte) → Prop
  | register {i : Instr} (c : Ch) (j : Fin 5) (mask : Byte) : ReadByte i (State.loadReg c j mask)
  | nr50 : ReadByte .rdNr50 State.nr50
  | nr51 : ReadByte .rdNr51 State.nr51
  | nr52 : ReadByte .rdNr52 State.nr52Value
  | wave (k : BitVec 4) : ReadByte (.rdWave k) (fun s => s.waveByte k)
  | unused {i : Instr} : ReadByte i (fun _ => 0xFF)

/-- Every READ is a `readOp` of one of these bytes. -/
theorem exec_readByte {i : Instr} (hi : i.isRead = true) : ∃ f, ReadByte i f ∧ ∀ s, exec i s = readOp f s := by
  cases i <;> simp only [Instr.isRead, Bool.false_eq_true] at hi
  case rdNr50 => exact ⟨_, .nr50, fun _ => rfl⟩
  case rdNr51 => exact ⟨_, .nr51, fun _ => rfl⟩
  case rdNr52 => exact ⟨_, .nr52, fun _ => rfl⟩
  case rdWave k => exact ⟨_, .wave k, fun _ => rfl⟩
  case rdUnusedFf15 | rdUnusedFf1f | rdUnusedFf27 | rdUnusedFf28To2f => exact ⟨_, .unused, fun _ => rfl⟩
  all_goals exact ⟨_, .register _ _ _, fun _ => rfl⟩

/-- Two states agree on everything a READ but NR52's can see. -/
structure State.SameRegisters (s t : State) : Prop where
  ch : ∀ c, s.ch c = t.ch c
  nr50 : s.nr50 = t.nr50
  nr51 : s.nr51 = t.nr51
  mem : s.mem = t.mem

/-- Answering a READ leaves what a READ can see. -/
theorem State.answerRead_sameRegisters (b : Byte) (s : State) : (s.answerRead b).SameRegisters s :=
  ⟨fun c => by cases c <;> rfl, rfl, rfl, rfl⟩

/-- The power bit is not among what a READ but NR52's can see. -/
theorem State.setPower_sameRegisters (p : Bool) (s : State) : ({ s with power := p } : State).SameRegisters s :=
  ⟨fun c => by cases c <;> rfl, rfl, rfl, rfl⟩

/-- NR52 shows the power bit and the channels' on flags (R123). -/
theorem State.nr52Value_congr {s t : State} (h : s.SameRegisters t) (hp : s.power = t.power) : s.nr52Value = t.nr52Value := by
  have h1 : s.ch1 = t.ch1 := h.ch .c1
  have h2 : s.ch2 = t.ch2 := h.ch .c2
  have h3 : s.ch3 = t.ch3 := h.ch .c3
  have h4 : s.ch4 = t.ch4 := h.ch .c4
  simp only [State.nr52Value, hp, h1, h2, h3, h4]

/-- A READ answers by the registers and wave RAM, and only NR52's by the power bit as well. -/
theorem ReadByte.congr {i : Instr} {f : State → Byte} (hf : ReadByte i f) {s t : State} (h : s.SameRegisters t)
    (hp : i = .rdNr52 → s.power = t.power) : f s = f t := by
  cases hf with
  | register c j mask => simp only [State.loadReg, h.ch c]
  | nr50 => exact h.nr50
  | nr51 => exact h.nr51
  | nr52 => exact State.nr52Value_congr h (hp rfl)
  | wave k => simp only [State.waveByte, h.mem]
  | unused => rfl

/-- A READ's answer does not change the byte any READ answers next. -/
theorem ReadByte.apply_answerRead {i : Instr} {f : State → Byte} (hf : ReadByte i f) (b : Byte) (s : State) : f (s.answerRead b) = f s :=
  hf.congr (s.answerRead_sameRegisters b) fun _ => rfl

/-- Settles O19: a READ answers a byte of what no READ changes, and only NR52's sees the power bit. -/
theorem readsChangeNothing : Obligations.ReadsChangeNothing := by
  intro i j s p hi hj hinit
  obtain ⟨f, hf, hexec⟩ := exec_readByte hi
  obtain ⟨g, hg, hexec'⟩ := exec_readByte hj
  have hrun : ∀ {u : State}, u.init = true → f u = f s → exec i u = .next (answered u (f s)) := by
    intro u hu hbyte
    rw [hexec, readOp_of_init f u hu, hbyte]
    rfl
  refine ⟨f s, g (answered s (f s)), hrun hinit rfl, ?_, ?_, fun hne => ?_⟩
  · exact (hexec' _).trans (readOp_of_init g _ hinit)
  · exact hrun hinit ((hf.apply_answerRead _ _).trans (hf.apply_answerRead _ s))
  · exact hrun hinit (hf.congr (s.setPower_sameRegisters p) fun h => absurd h hne)

end Sys2Proof.Machine
end

section
/-! The word format (spec/30_encoding.md R90 to R93): what each operation's word decodes to, what the decoder can answer for any word, and
which words a row's mask and match select. -/

namespace Sys2Proof

/-! ### The word of an operation -/

/-- A field that lies within `T[23:8]` is a field of the address (R91). -/
theorem packWord_extractLsb'_addr (k : BitVec 2) (a : Addr) (d : Byte) {start len : Nat} (hlo : 8 ≤ start)
    (hhi : start - 8 + len ≤ 16) : (packWord k a d).extractLsb' start len = a.extractLsb' (start - 8) len := by
  rw [packWord, BitVec.extractLsb'_append_eq_of_le hlo, BitVec.extractLsb'_append_eq_of_add_le hhi]

theorem exists_packWord (w : TWord) : ∃ k a d, w = packWord k a d := ⟨_, _, _, (packWord_fields w).symm⟩

theorem decodeRead_wave (x : BitVec 4) : decodeRead (0xFF3#12 ++ x) = .ok (.rdWave x) := by
  simp only [decodeRead, BitVec.extractLsb'_append_eq_left, BitVec.extractLsb'_append_eq_right, if_true]

theorem decodeWrite_wave (x : BitVec 4) (v : Byte) : decodeWrite (0xFF3#12 ++ x) v = .ok (.wrWave x v) := by
  simp only [decodeWrite, BitVec.extractLsb'_append_eq_left, BitVec.extractLsb'_append_eq_right, if_true]

theorem unusedAddr_not_wave (x : BitVec 3) : (0x1FE5#13 ++ x).extractLsb' 4 12 ≠ 0xFF3#12 := by revert x; decide

theorem decodeRead_unused (x : BitVec 3) : decodeRead (0x1FE5#13 ++ x) = .ok (.rdUnusedFf28To2f x) := by
  rw [decodeRead, if_neg (unusedAddr_not_wave x)]
  simp only [BitVec.extractLsb'_append_eq_left, BitVec.extractLsb'_append_eq_right, if_true]

theorem decodeWrite_unused (x : BitVec 3) (v : Byte) : decodeWrite (0x1FE5#13 ++ x) v = .ok (.wrUnusedFf28To2f x v) := by
  rw [decodeWrite, if_neg (unusedAddr_not_wave x)]
  simp only [BitVec.extractLsb'_append_eq_left, BitVec.extractLsb'_append_eq_right, if_true]

/-- The decoder on an ADVANCE word, by its reserved field `T[23:9]` (R90). -/
theorem decode_advanceWord (r : BitVec 15) (dsm : Bool) (div : Byte) :
    decode (packWord 2 (r ++ BitVec.ofBool dsm) div) = if r = 0 then .ok (.advance dsm div) else .error .badEncoding := by
  have hr : (packWord 2 (r ++ BitVec.ofBool dsm) div).extractLsb' 9 15 = r := by
    rw [packWord_extractLsb'_addr _ _ _ (by decide) (by decide)]
    exact BitVec.extractLsb'_append_eq_left
  have hdsm : (packWord 2 (r ++ BitVec.ofBool dsm) div).getLsbD 8 = dsm := by
    rw [packWord_getLsbD, BitVec.getLsbD_append]
    simp
  rw [decode_advance, decodeAdvance, hr, hdsm, wordData_packWord]

/-- The decoder on a RESET word, by its reserved field `T[23:0]` (R90). -/
theorem decode_resetWord (a : Addr) (d : Byte) :
    decode (packWord 3 a d) = if a = 0 ∧ d = 0 then .ok .reset else .error .badEncoding := by
  have hfield : (packWord 3 a d).extractLsb' 0 24 = 0 ↔ a = 0 ∧ d = 0 := by
    have hkind : (3 : BitVec 2).toNat = 3 := rfl
    rw [BitVec.toNat_eq, BitVec.toNat_eq (x := a), BitVec.toNat_eq (x := d), BitVec.extractLsb'_toNat, packWord_toNat]
    simp only [Nat.shiftRight_zero, BitVec.ofNat_eq_ofNat, BitVec.toNat_ofNat]
    omega
  simp only [decode_reset, decodeReset, hfield]

/-- The word of every operation, by its kind (R90): a READ's or a WRITE's address selects its row. -/
theorem encode_cases (i : Instr) :
    (∃ a, encode i = packWord 0 a 0 ∧ decodeRead a = .ok i) ∨ (∃ a v, encode i = packWord 1 a v ∧ decodeWrite a v = .ok i) ∨
      (∃ dsm div, i = .advance dsm div) ∨ i = .reset := by
  cases i with
  | advance dsm div => exact .inr (.inr (.inl ⟨dsm, div, rfl⟩))
  | reset => exact .inr (.inr (.inr rfl))
  | rdWave x => exact .inl ⟨_, rfl, decodeRead_wave x⟩
  | rdUnusedFf28To2f x => exact .inl ⟨_, rfl, decodeRead_unused x⟩
  | wrWave x v => exact .inr (.inl ⟨_, v, rfl, decodeWrite_wave x v⟩)
  | wrUnusedFf28To2f x v => exact .inr (.inl ⟨_, v, rfl, decodeWrite_unused x v⟩)
  | rdNr10 | rdNr11 | rdNr12 | rdNr13 | rdNr14 | rdNr21 | rdNr22 | rdNr23 | rdNr24 | rdNr30 | rdNr31 | rdNr32 | rdNr33 | rdNr34
  | rdNr41 | rdNr42 | rdNr43 | rdNr44 | rdNr50 | rdNr51 | rdNr52 | rdUnusedFf15 | rdUnusedFf1f | rdUnusedFf27 =>
    exact .inl ⟨_, rfl, rfl⟩
  | _ => exact .inr (.inl ⟨_, _, rfl, rfl⟩)

/-- Settles O1, by the kind of the operation's word. -/
theorem decodeInvertsEncode : Obligations.DecodeInvertsEncode := by
  intro i
  obtain ⟨a, hw, hrow⟩ | ⟨a, v, hw, hrow⟩ | ⟨dsm, div, rfl⟩ | rfl := encode_cases i
  · rw [hw, decode_read, hrow]
  · rw [hw, decode_write, hrow]
  · exact decode_advanceWord 0 dsm div
  · exact decode_resetWord 0 0

/-- Settles O6: the seven words are those of their operations, which the decoder gives back. -/
theorem workedEncodings : Obligations.WorkedEncodings := by
  intro e he
  have hw : encode e.2 = e.1 := by
    revert e
    decide
  exact ⟨hw ▸ decodeInvertsEncode e.2, hw⟩

/-! ### What the decoder can answer -/

/-- What the decoder can answer for a word (R93): the operation whose word it is, but for a READ's data field, or a refusal. -/
inductive Decoded : TWord → Except DecodeError Instr → Prop
  | read {a : Addr} (d : Byte) {i : Instr} (hw : encode i = packWord 0 a 0) (ha : inWindow a = true) :
      Decoded (packWord 0 a d) (.ok i)
  | write {a : Addr} {v : Byte} {i : Instr} (hw : encode i = packWord 1 a v) (ha : inWindow a = true) :
      Decoded (packWord 1 a v) (.ok i)
  | outside {k : BitVec 2} {a : Addr} (d : Byte) (hk : k = 0 ∨ k = 1) (ha : inWindow a = false) :
      Decoded (packWord k a d) (.error .outsideWindow)
  | advance (dsm : Bool) (div : Byte) : Decoded (encode (.advance dsm div)) (.ok (.advance dsm div))
  | badAdvance {r : BitVec 15} (dsm : Bool) (div : Byte) (hr : r ≠ 0) :
      Decoded (packWord 2 (r ++ BitVec.ofBool dsm) div) (.error .badEncoding)
  | reset : Decoded (encode .reset) (.ok .reset)
  | badReset {a : Addr} {d : Byte} (h : ¬(a = 0 ∧ d = 0)) : Decoded (packWord 3 a d) (.error .badEncoding)

theorem exists_wave_operand {a : Addr} (h : a.extractLsb' 4 12 = 0xFF3#12) : ∃ x : BitVec 4, a = 0xFF3#12 ++ x :=
  ⟨a.extractLsb' 0 4, h ▸ (BitVec.extractLsb'_append_extractLsb' (w := 12) (len := 4)).symm⟩

theorem exists_unused_operand {a : Addr} (h : a.extractLsb' 3 13 = 0x1FE5#13) : ∃ x : BitVec 3, a = 0x1FE5#13 ++ x :=
  ⟨a.extractLsb' 0 3, h ▸ (BitVec.extractLsb'_append_extractLsb' (w := 13) (len := 3)).symm⟩

theorem exists_advance_fields (a : Addr) : ∃ (r : BitVec 15) (dsm : Bool), a = r ++ BitVec.ofBool dsm := by
  have hbit (b : BitVec 1) : b = BitVec.ofBool (b.getLsbD 0) := by revert b; decide
  exact ⟨a.extractLsb' 1 15, _, hbit (a.extractLsb' 0 1) ▸ (BitVec.extractLsb'_append_extractLsb' (w := 15) (len := 1)).symm⟩

theorem inWindow_wave (x : BitVec 4) : inWindow (0xFF3#12 ++ x) = true := by revert x; decide

theorem inWindow_unused (x : BitVec 3) : inWindow (0x1FE5#13 ++ x) = true := by revert x; decide

theorem inWindow_iff (a : Addr) : inWindow a = true ↔ 0xFF10 ≤ a.toNat ∧ a.toNat ≤ 0xFF3F := by
  simp only [inWindow, Bool.and_eq_true, decide_eq_true_eq]

theorem inWindow_eq_false_iff (a : Addr) : inWindow a = false ↔ a.toNat < 0xFF10 ∨ 0xFF3F < a.toNat := by
  rw [← Bool.not_eq_true, inWindow_iff]
  omega

/-- An address of neither wave RAM nor 0xFF28..0xFF2F, by its number. -/
theorem toNat_of_single_address {a : Addr} (hwave : a.extractLsb' 4 12 ≠ 0xFF3#12) (hunused : a.extractLsb' 3 13 ≠ 0x1FE5#13) :
    a.toNat < 0xFF28 ∨ 0xFF3F < a.toNat := by
  rw [Ne, BitVec.toNat_eq, Machine.toNat_extractLsb'_eq_div] at hwave hunused
  simp only [BitVec.toNat_ofNat] at hwave hunused
  omega

/-- A READ word decodes to the row of its address, and every address of the window has one. -/
theorem decodeRead_decoded (a : Addr) (d : Byte) : Decoded (packWord 0 a d) (decodeRead a) := by
  by_cases hwave : a.extractLsb' 4 12 = 0xFF3#12
  · obtain ⟨x, rfl⟩ := exists_wave_operand hwave
    exact decodeRead_wave x ▸ .read d rfl (inWindow_wave x)
  by_cases hunused : a.extractLsb' 3 13 = 0x1FE5#13
  · obtain ⟨x, rfl⟩ := exists_unused_operand hunused
    exact decodeRead_unused x ▸ .read d rfl (inWindow_unused x)
  rw [decodeRead, if_neg hwave, if_neg hunused]
  unfold decodeReadRegister
  split
  case h_25 =>
    have hsingle := toNat_of_single_address hwave hunused
    refine .outside d (.inl rfl) ((inWindow_eq_false_iff a).2 ?_)
    simp only [BitVec.toNat_eq, BitVec.toNat_ofNat, imp_false] at *
    omega
  all_goals exact .read d rfl rfl

/-- A WRITE word decodes to the row of its address, and every address of the window has one. -/
theorem decodeWrite_decoded (a : Addr) (v : Byte) : Decoded (packWord 1 a v) (decodeWrite a v) := by
  by_cases hwave : a.extractLsb' 4 12 = 0xFF3#12
  · obtain ⟨x, rfl⟩ := exists_wave_operand hwave
    exact decodeWrite_wave x v ▸ .write rfl (inWindow_wave x)
  by_cases hunused : a.extractLsb' 3 13 = 0x1FE5#13
  · obtain ⟨x, rfl⟩ := exists_unused_operand hunused
    exact decodeWrite_unused x v ▸ .write rfl (inWindow_unused x)
  rw [decodeWrite, if_neg hwave, if_neg hunused]
  unfold decodeWriteRegister
  split
  case h_25 =>
    have hsingle := toNat_of_single_address hwave hunused
    refine .outside v (.inr rfl) ((inWindow_eq_false_iff a).2 ?_)
    simp only [BitVec.toNat_eq, BitVec.toNat_ofNat, imp_false] at *
    omega
  all_goals exact .write rfl rfl

/-- The decoder is total, with one of the answers for every word (R93). -/
theorem decode_decoded (w : TWord) : Decoded w (decode w) := by
  obtain ⟨k, a, d, rfl⟩ := exists_packWord w
  have hkind : k = 0 ∨ k = 1 ∨ k = 2 ∨ k = 3 := by revert k; decide
  obtain rfl | rfl | rfl | rfl := hkind
  · exact decode_read a d ▸ decodeRead_decoded a d
  · exact decode_write a d ▸ decodeWrite_decoded a d
  · obtain ⟨r, dsm, rfl⟩ := exists_advance_fields a
    rw [decode_advanceWord]
    split
    · next hr => exact hr ▸ .advance dsm d
    · next hr => exact .badAdvance dsm d hr
  · rw [decode_resetWord]
    split
    · next h => exact h.1 ▸ h.2 ▸ .reset
    · next h => exact .badReset h

/-- A word that decodes is that of its operation, but for a READ's data field. -/
theorem decoded_of_decode_ok {w : TWord} {i : Instr} (h : decode w = .ok i) : Decoded w (.ok i) := h ▸ decode_decoded w

/-- READ words are those below `2^24` (R90). -/
theorem packWord_lt_iff (k : BitVec 2) (a : Addr) (d : Byte) : (packWord k a d).toNat < 2 ^ 24 ↔ k = 0 := by
  have hk : k = 0 ↔ k.toNat = 0 := BitVec.toNat_eq
  rw [packWord_toNat, hk]
  omega

/-- Settles O2: of the decoder's answers only a READ loses its data field. -/
theorem encodeInvertsDecode : Obligations.EncodeInvertsDecode := by
  intro w i h
  cases decoded_of_decode_ok h with
  | read d hw => rw [if_pos ((packWord_lt_iff ..).2 rfl), Laws.packWord_and_address, hw]
  | write hw => rw [if_neg (mt (packWord_lt_iff ..).1 (by decide)), hw]
  | advance dsm div => exact (if_neg (mt (packWord_lt_iff ..).1 (by decide))).symm
  | reset => decide

theorem advanceAddr_toNat (r : BitVec 15) (dsm : Bool) : (r ++ BitVec.ofBool dsm).toNat = r.toNat * 2 + dsm.toNat := by
  rw [BitVec.toNat_append, ← Nat.shiftLeft_add_eq_or_of_lt (BitVec.isLt _), BitVec.toNat_ofBool, Nat.shiftLeft_eq, pow_one]

theorem advanceWord_toNat (r : BitVec 15) (dsm : Bool) (div : Byte) :
    (packWord 2 (r ++ BitVec.ofBool dsm) div).toNat = 2 * 2 ^ 24 + r.toNat * 2 ^ 9 + dsm.toNat * 2 ^ 8 + div.toNat := by
  rw [packWord_toNat, advanceAddr_toNat]
  simp only [BitVec.reduceToNat]
  omega

/-- Settles O5: each of the decoder's answers, by the number of its word. -/
theorem refusedWordsAreThoseWithNoRow : Obligations.RefusedWordsAreThoseWithNoRow := by
  intro w
  have hd := decode_decoded w
  generalize decode w = answer at hd
  cases hd with
  | read d hw ha =>
    rw [inWindow_iff] at ha
    simp only [packWord_toNat, reduceCtorEq, false_iff, BitVec.reduceToNat]
    omega
  | write hw ha =>
    rw [inWindow_iff] at ha
    simp only [packWord_toNat, reduceCtorEq, false_iff, BitVec.reduceToNat]
    omega
  | outside d hk ha =>
    rw [inWindow_eq_false_iff] at ha
    simp only [packWord_toNat, Except.error.injEq, reduceCtorEq, true_iff, false_iff]
    obtain rfl | rfl := hk <;> simp only [BitVec.reduceToNat] <;> omega
  | advance dsm div =>
    have hdsm := dsm.toNat_le
    simp only [encode, advanceWord_toNat, reduceCtorEq, false_iff, BitVec.reduceToNat]
    omega
  | badAdvance dsm div hr =>
    rw [Ne, BitVec.toNat_eq] at hr
    have hdsm := dsm.toNat_le
    simp only [advanceWord_toNat, Except.error.injEq, reduceCtorEq, true_iff, false_iff, BitVec.reduceToNat] at hr ⊢
    omega
  | reset => decide
  | badReset h =>
    rw [BitVec.toNat_eq, BitVec.toNat_eq] at h
    simp only [packWord_toNat, Except.error.injEq, reduceCtorEq, true_iff, false_iff, BitVec.reduceToNat] at h ⊢
    omega

/-! ### The masks -/

open Laws in
/-- Every operation's word matches its row (R92). -/
theorem encode_and_rowMask (i : Instr) : encode i &&& i.rowMask = i.rowMatch := by
  cases i with
  | wrWave x v => exact packWord_and_wave 1 x v
  | rdWave x => exact packWord_and_wave 0 x 0
  | wrUnusedFf28To2f x v => exact packWord_and_unused 1 x v
  | rdUnusedFf28To2f x => exact packWord_and_unused 0 x 0
  | advance dsm div => exact packWord_and_advance dsm div
  | reset => decide
  | _ => exact packWord_and_address _ _ _

/-- A READ's row does not look at the data field. -/
theorem rowMask_of_read {i : Instr} {a : Addr} (h : encode i = packWord 0 a 0) : 0x3FFFF00 &&& i.rowMask = i.rowMask := by
  have hkind : wordKind (encode i) = 0 := h ▸ wordKind_packWord 0 a 0
  cases i with
  | advance dsm div => exact absurd ((wordKind_packWord ..).symm.trans hkind) (by decide)
  | reset => exact absurd hkind (by decide)
  | _ => rw [Instr.rowMask]; decide

/-- Settles O3: the word of an operation matches its row, and a READ's row does not look at the data field. -/
theorem decodedWordMatchesItsRow : Obligations.DecodedWordMatchesItsRow := by
  intro w i h
  cases decoded_of_decode_ok h with
  | read d hw => rw [← rowMask_of_read hw, ← BitVec.and_assoc, Laws.packWord_and_address, ← hw, encode_and_rowMask]
  | write hw => exact hw ▸ encode_and_rowMask i
  | advance | reset => exact encode_and_rowMask _

/-- A field that the mask keeps whole is the match's. -/
theorem extractLsb'_of_and {w mask m : TWord} {start len : Nat} (h : w &&& mask = m)
    (hmask : mask.extractLsb' start len = BitVec.allOnes len) : w.extractLsb' start len = m.extractLsb' start len := by
  rw [← h, BitVec.extractLsb'_and, hmask, BitVec.and_allOnes]

theorem kind_of_and {k : BitVec 2} {a : Addr} {d : Byte} {mask m : TWord} (h : packWord k a d &&& mask = m)
    (hmask : wordKind mask = BitVec.allOnes 2) : k = wordKind m :=
  (wordKind_packWord k a d).symm.trans (extractLsb'_of_and h hmask)

theorem addr_of_and {k : BitVec 2} {a : Addr} {d : Byte} {mask m : TWord} (h : packWord k a d &&& mask = m)
    (hmask : wordAddr mask = BitVec.allOnes 16) : a = wordAddr m :=
  (wordAddr_packWord k a d).symm.trans (extractLsb'_of_and h hmask)

theorem addrField_of_and {k : BitVec 2} {a : Addr} {d : Byte} {mask m : TWord} (h : packWord k a d &&& mask = m) {start len : Nat}
    (hmask : mask.extractLsb' start len = BitVec.allOnes len) (hlo : 8 ≤ start) (hhi : start - 8 + len ≤ 16) :
    a.extractLsb' (start - 8) len = m.extractLsb' start len :=
  (packWord_extractLsb'_addr k a d hlo hhi).symm.trans (extractLsb'_of_and h hmask)

/-- A word that a row of one address matches is decoded by that address. -/
theorem decode_of_and_address {k : BitVec 2} {a : Addr} {d : Byte} {m : TWord} (h : packWord k a d &&& 0x3FFFF00 = m) :
    decode (packWord k a d) = decode (packWord (wordKind m) (wordAddr m) d) := by
  rw [← kind_of_and h rfl, ← addr_of_and h rfl]

/-- Settles O4: the fields the mask keeps are the match's, and the others are the operands. -/
theorem rowWordDecodesToItsRow : Obligations.RowWordDecodesToItsRow := by
  intro w i h
  obtain ⟨k, a, d, rfl⟩ := exists_packWord w
  cases i <;> simp only [Instr.rowMask, Instr.rowMatch] at h
  case wrWave =>
    obtain rfl : k = 1 := kind_of_and h rfl
    obtain ⟨x, rfl⟩ := exists_wave_operand (addrField_of_and h (start := 12) rfl (by decide) (by decide))
    exact ⟨.wrWave x d, (decode_write _ _).trans (decodeWrite_wave x d), rfl, rfl⟩
  case rdWave =>
    obtain rfl : k = 0 := kind_of_and h rfl
    obtain ⟨x, rfl⟩ := exists_wave_operand (addrField_of_and h (start := 12) rfl (by decide) (by decide))
    exact ⟨.rdWave x, (decode_read _ _).trans (decodeRead_wave x), rfl, rfl⟩
  case wrUnusedFf28To2f =>
    obtain rfl : k = 1 := kind_of_and h rfl
    obtain ⟨x, rfl⟩ := exists_unused_operand (addrField_of_and h (start := 11) rfl (by decide) (by decide))
    exact ⟨.wrUnusedFf28To2f x d, (decode_write _ _).trans (decodeWrite_unused x d), rfl, rfl⟩
  case rdUnusedFf28To2f =>
    obtain rfl : k = 0 := kind_of_and h rfl
    obtain ⟨x, rfl⟩ := exists_unused_operand (addrField_of_and h (start := 11) rfl (by decide) (by decide))
    exact ⟨.rdUnusedFf28To2f x, (decode_read _ _).trans (decodeRead_unused x), rfl, rfl⟩
  case advance =>
    obtain rfl : k = 2 := kind_of_and h rfl
    obtain ⟨r, dsm, rfl⟩ := exists_advance_fields a
    obtain rfl : r = 0 :=
      BitVec.extractLsb'_append_eq_left.symm.trans (addrField_of_and h (start := 9) (len := 15) rfl (by decide) (by decide))
    exact ⟨.advance dsm d, decode_advanceWord 0 dsm d, rfl, rfl⟩
  case reset =>
    refine ⟨.reset, ?_, rfl, rfl⟩
    have hw : packWord k a d = 0x3000000 := BitVec.and_allOnes.symm.trans h
    rw [hw]
    decide
  case rdNr10 | rdNr11 | rdNr12 | rdNr13 | rdNr14 | rdNr21 | rdNr22 | rdNr23 | rdNr24 | rdNr30 | rdNr31 | rdNr32 | rdNr33 | rdNr34
  | rdNr41 | rdNr42 | rdNr43 | rdNr44 | rdNr50 | rdNr51 | rdNr52 | rdUnusedFf15 | rdUnusedFf1f | rdUnusedFf27 =>
    exact ⟨_, (decode_of_and_address h).trans (decode_read _ _), rfl, rfl⟩
  all_goals exact ⟨_, (decode_of_and_address h).trans (decode_write _ _), rfl, rfl⟩

end Sys2Proof

namespace Sys2Proof.Machine

open Sys2Proof.Claims

/-- A word with no row after RESET: the refusal is recorded with the decoder's reason. -/
theorem State.refuseWord_of_init (e : DecodeError) (s : State) (h : s.init = true) :
    s.refuseWord e = refusedWith s (decodeReason e) := by
  rw [State.refuseWord, h]
  rfl

/-- Settles O8, by the step's rule for a word that does not decode. -/
theorem stepRefusesAWordWithNoRow : Obligations.StepRefusesAWordWithNoRow := by
  intro s w rest hinit hp
  have hrefuse (e : DecodeError) (hd : decode w = .error e) :
      step s = .next (refusedWith { s with pending := rest } (decodeReason e)) := by
    rw [step_of_error s w rest e hp hd, State.refuseWord_of_init]
    exact hinit
  exact ⟨hrefuse .outsideWindow, hrefuse .badEncoding⟩

end Sys2Proof.Machine
end

section
/-! The register bank (spec/40_register_bank.md): the words of its rows, the two bus dispatches of R110 and R111, and the WRITEs of NR50,
NR51, NR52 and wave RAM. -/

namespace Sys2Proof

/-! ### The words of READs and WRITEs -/

theorem packWord_inj {k k' : BitVec 2} {a a' : Addr} {d d' : Byte} :
    packWord k a d = packWord k' a' d' ↔ k = k' ∧ a = a' ∧ d = d' := by
  refine ⟨fun h => ⟨?_, ?_, ?_⟩, fun ⟨hk, ha, hd⟩ => hk ▸ ha ▸ hd ▸ rfl⟩
  · rw [← wordKind_packWord k a d, h, wordKind_packWord]
  · rw [← wordAddr_packWord k a d, h, wordAddr_packWord]
  · rw [← wordData_packWord k a d, h, wordData_packWord]

/-- The data field of a READ word is ignored (R90). -/
theorem decode_readWord {i : Instr} {a : Addr} (h : encode i = packWord 0 a 0) (d : Byte) : decode (packWord 0 a d) = .ok i := by
  rw [decode_read, ← decode_read a 0, ← h, decodeInvertsEncode i]

theorem decode_writeWord {i : Instr} {a : Addr} {v : Byte} (h : encode i = packWord 1 a v) : decode (packWord 1 a v) = .ok i :=
  h ▸ decodeInvertsEncode i

theorem decode_readWords {rows : List (Addr × Instr)} (h : rows.Forall fun e => encode e.2 = packWord 0 e.1 0) :
    ∀ e ∈ rows, ∀ d, decode (packWord 0 e.1 d) = .ok e.2 :=
  fun e he => decode_readWord (List.forall_iff_forall_mem.1 h e he)

theorem decode_writeWords {v : Byte} {rows : List (Addr × Instr)} (h : rows.Forall fun e => encode e.2 = packWord 1 e.1 v) :
    ∀ e ∈ rows, decode (packWord 1 e.1 v) = .ok e.2 :=
  fun e he => decode_writeWord (List.forall_iff_forall_mem.1 h e he)

/-- A READ word that decodes is its operation's, but for the data field. -/
theorem encode_of_decode_read {i : Instr} {a : Addr} {d : Byte} (h : decode (packWord 0 a d) = .ok i) : encode i = packWord 0 a 0 := by
  rw [encodeInvertsDecode _ i h, if_pos ((packWord_lt_iff ..).2 rfl), Laws.packWord_and_address]

/-- A WRITE word that decodes is its operation's. -/
theorem encode_of_decode_write {i : Instr} {a : Addr} {v : Byte} (h : decode (packWord 1 a v) = .ok i) : encode i = packWord 1 a v := by
  rw [encodeInvertsDecode _ i h, if_neg (mt (packWord_lt_iff ..).1 (by decide))]

theorem waveAddr_eq_append (k : BitVec 4) : BitVec.ofNat 16 (0xFF30 + k.toNat) = 0xFF3#12 ++ k := by revert k; decide

theorem unusedAddr_eq_append (x : BitVec 3) : BitVec.ofNat 16 (0xFF28 + x.toNat) = 0x1FE5#13 ++ x := by revert x; decide

theorem toNat_waveAddr (k : BitVec 4) : (0xFF3#12 ++ k).toNat = 0xFF30 + k.toNat := by revert k; decide

end Sys2Proof

namespace Sys2Proof.Machine

open Sys2Proof.Claims

/-! ### READs (R110) -/

/-- `NR52_VALUE()` as a number (R123). -/
theorem State.nr52Value_eq (s : State) :
    s.nr52Value = BitVec.ofNat 8 ((if s.power then 128 else 0) + 112 + (if s.ch4.on then 8 else 0) + (if s.ch3.on then 4 else 0) +
      (if s.ch2.on then 2 else 0) + (if s.ch1.on then 1 else 0)) := by
  have hbits (p b4 b3 b2 b1 : Bool) :
      BitVec.ofBool p ++ 0b111#3 ++ BitVec.ofBool b4 ++ BitVec.ofBool b3 ++ BitVec.ofBool b2 ++ BitVec.ofBool b1 =
        BitVec.ofNat 8 ((if p then 128 else 0) + 112 + (if b4 then 8 else 0) + (if b3 then 4 else 0) + (if b2 then 2 else 0) +
          (if b1 then 1 else 0)) := by
    revert p b4 b3 b2 b1; decide
  exact hbits ..

theorem busRead_wave (s : State) (k : BitVec 4) : busRead s (0xFF3#12 ++ k) = s.waveByte k := by
  rw [busRead, toNat_waveAddr, if_pos (Nat.le_add_right _ _)]
  rfl

theorem busRead_nr52 (s : State) : busRead s 0xFF26 = s.nr52Value := s.nr52Value_eq.symm

/-- An address of no register (R114): neither wave RAM's, nor a mixer or power register's, nor a channel register's. -/
abbrev IsUnusedAddr (a : Addr) : Prop := a.toNat < 0xFF30 ∧ a ≠ 0xFF26 ∧ a ≠ 0xFF24 ∧ a ≠ 0xFF25 ∧ slot a = none

theorem isUnusedAddr_append (x : BitVec 3) : IsUnusedAddr (0x1FE5#13 ++ x) := by revert x; decide

theorem busRead_unused (s : State) {a : Addr} (h : IsUnusedAddr a) : busRead s a = 0xFF := by
  obtain ⟨hwave, h52, h50, h51, hslot⟩ := h
  rw [busRead, if_neg (Nat.not_le.2 hwave), if_neg h52, if_neg h50, if_neg h51, hslot]

/-- The channel registers have neither wave RAM's addresses nor the mixer and power registers' (spec/10_state.md R26). -/
theorem addr_of_slot {a : Addr} {p : Ch × Fin 5} (h : slot a = some p) :
    a.toNat < 0xFF30 ∧ a ≠ 0xFF26 ∧ a ≠ 0xFF24 ∧ a ≠ 0xFF25 := by
  unfold slot at h
  split at h
  case h_19 => cases h
  all_goals decide

theorem busRead_slot (s : State) {a : Addr} {c : Ch} {j : Fin 5} (h : slot a = some (c, j)) :
    busRead s a = s.loadReg c j (readMask a) := by
  obtain ⟨hwave, h52, h50, h51⟩ := addr_of_slot h
  rw [busRead, if_neg (Nat.not_le.2 hwave), if_neg h52, if_neg h50, if_neg h51, h]
  rfl

theorem readOp_answers_busRead {s : State} (hinit : s.init = true) (f : State → Byte) {a : Addr} (h : busRead s a = f s) :
    readOp f s = .next (answered s (busRead s a)) := h ▸ readOp_of_init f s hinit

/-- Every READ is the dispatch by the address of its word. -/
theorem exec_readWord {i : Instr} {s : State} (hinit : s.init = true) {a : Addr} (hw : encode i = packWord 0 a 0) :
    exec i s = .next (answered s (busRead s a)) := by
  cases i <;> simp only [encode, packWord_inj, BitVec.ofNat_eq_ofNat, BitVec.reduceEq, false_and, true_and, and_true] at hw <;> subst hw
  case rdNr50 => exact readOp_answers_busRead hinit State.nr50 rfl
  case rdNr51 => exact readOp_answers_busRead hinit State.nr51 rfl
  case rdNr52 => exact readOp_answers_busRead hinit State.nr52Value (busRead_nr52 s)
  case rdWave k => exact readOp_answers_busRead hinit (fun s => s.waveByte k) (busRead_wave s k)
  case rdUnusedFf28To2f x => exact readOp_answers_busRead hinit (fun _ => 0xFF) (busRead_unused s (isUnusedAddr_append x))
  case rdUnusedFf15 | rdUnusedFf1f | rdUnusedFf27 =>
    exact readOp_answers_busRead hinit (fun _ => 0xFF) (busRead_unused s (by decide))
  all_goals exact readOp_answers_busRead hinit (State.loadReg _ _ _) (busRead_slot s rfl)

/-- Settles O18: a READ word that decodes is its operation's, and every READ is the dispatch by the address of its word. -/
theorem readsFollowTheBusDispatch : Obligations.ReadsFollowTheBusDispatch := fun _ _ _ _ hinit h =>
  exec_readWord hinit (encode_of_decode_read h)

/-- Settles O16, from the words of the four rows and the number NR52 shows. -/
theorem mixerPowerAndWaveReads : Obligations.MixerPowerAndWaveReads := by
  refine ⟨decode_readWords ⟨rfl, rfl, rfl⟩, fun k d => ?_, fun s hinit => ⟨?_, ?_, ?_, fun k => ?_⟩⟩
  · rw [waveAddr_eq_append]
    exact decode_readWord rfl d
  · exact readOp_of_init _ s hinit
  · exact readOp_of_init _ s hinit
  · rw [← s.nr52Value_eq]
    exact readOp_of_init _ s hinit
  · exact readOp_of_init (fun s => s.waveByte k) s hinit

/-! ### Power-gated WRITEs (R113) -/

theorem gatedWriteOp_of_init (f : State → State) (s : State) (hinit : s.init = true) :
    gatedWriteOp f s = .next (wrote (if s.power = true then f s else s)) := writeOp_of_init _ s hinit

/-- Settles O26: every power-gated WRITE is a `gatedWriteOp`, which has no effect while powered off. -/
theorem poweredOffWritesAreDiscarded : Obligations.PoweredOffWritesAreDiscarded := by
  intro i s hgated hinit hoff
  obtain ⟨f, hexec⟩ := exec_of_isGatedWrite i hgated
  rw [hexec]
  exact gatedWriteOp_of_off f s hinit hoff

/-- Settles O23, by the rule for a power-gated WRITE. -/
theorem mixerRegisterWrites : Obligations.MixerRegisterWrites :=
  ⟨fun _ => decode_writeWords ⟨rfl, rfl⟩, fun s v hinit =>
    ⟨gatedWriteOp_of_init (fun s => { s with nr50 := v }) s hinit, gatedWriteOp_of_init (fun s => { s with nr51 := v }) s hinit⟩⟩

/-- A WRITE of an unused address only draws its byte (R119). -/
theorem discardWrite_of_init (s : State) (hinit : s.init = true) : discardWrite s = .next (wrote s) := by
  rw [discardWrite, gatedWriteOp_of_init _ s hinit, ite_self]

/-- Settles O17: the words of the four rows, and the two operations they all share. -/
theorem unusedAddresses : Obligations.UnusedAddresses := by
  refine ⟨decode_readWords ⟨rfl, rfl, rfl⟩, fun v => decode_writeWords ⟨rfl, rfl, rfl⟩, fun x v => ?_, fun s x v hinit => ?_⟩
  · rw [unusedAddr_eq_append]
    exact ⟨decode_readWord rfl v, decode_writeWord rfl⟩
  · have hread : readUnused s = .next (answered s 0xFF) := readOp_of_init _ s hinit
    have hwrite := discardWrite_of_init s hinit
    exact ⟨hread, hread, hread, hread, hwrite, hwrite, hwrite, hwrite⟩

/-! ### NR52 and wave RAM: WRITEs that are not power-gated (R120 to R122, R129) -/

/-- The power procedure by the number of the byte (R122). -/
theorem State.writeNr52_eq (s : State) (v : Byte) : s.writeNr52 v = if v.toNat < 128 then s.powerOff else s.powerOn := by
  have hbit : v.getLsbD 7 = true ↔ ¬ v.toNat < 128 := (getLsbD_seven_iff v).trans Nat.not_lt.symm
  simp only [State.writeNr52, hbit, ite_not]

/-- The power-on with its condition as a proposition (R121). -/
theorem State.powerOn_eq (s : State) :
    s.powerOn = { s with
      fsStep := if s.power = false ∨ s.params.nr52FsResetOnEverySet = true then 0 else s.fsStep, power := true } := by
  simp only [State.powerOn, Bool.or_eq_true, Bool.not_eq_true']

theorem exec_wrNr52 (s : State) (v : Byte) (hinit : s.init = true) :
    exec (.wrNr52 v) s = .next (wrote (if v.toNat < 128 then s.powerOff else s.powerOn)) := by
  rw [← s.writeNr52_eq]
  exact writeOp_of_init _ s hinit

/-- Settles O24: bit 7 is the number's test against 128, and the two power procedures. -/
theorem powerRegisterWrites : Obligations.PowerRegisterWrites := by
  refine ⟨fun v => decode_writeWord rfl, fun s v hinit => ⟨fun hlt => ?_, fun hge => ?_⟩⟩
  · rw [exec_wrNr52 s v hinit, if_pos hlt]
    rfl
  · rw [exec_wrNr52 s v hinit, if_neg (Nat.not_lt.2 hge), s.powerOn_eq]

theorem exec_wrWave (s : State) (k : BitVec 4) (v : Byte) (hinit : s.init = true) :
    exec (.wrWave k v) s = .next (wrote (s.storeWave k v)) := writeOp_of_init _ s hinit

/-- Settles O25, by the memory's laws for a read after a write. -/
theorem waveRamWrites : Obligations.WaveRamWrites := by
  refine ⟨fun k v => ?_, fun s k v hinit => ⟨_, exec_wrWave s k v hinit, ?_, fun a ha => ?_, rfl⟩⟩
  · rw [waveAddr_eq_append]
    exact decode_writeWord rfl
  · exact Memory.read_write_same s.mem _ v
  · exact Memory.read_write_other s.mem _ a v ha

/-! ### The length reload and the quirks of an NRx4 write as numbers (spec/41_channel_registers.md R151, R160) -/

theorem lenLoad_eq (c : Ch) (v : Byte) :
    maxLen c - (v &&& lenMask c).toNat = if c = .c3 then 256 - v.toNat else 64 - v.toNat % 64 := by
  have h63 : (v &&& 0x3F).toNat = v.toNat % 64 := (BitVec.toNat_and ..).trans (Nat.and_two_pow_sub_one_eq_mod v.toNat 6)
  have h255 : v &&& 0xFF = v := BitVec.and_allOnes
  cases c <;> simp only [maxLen, lenMask, h63, h255, reduceCtorEq, if_true, if_false]

theorem maxLen_ge_two (c : Ch) : 2 ≤ maxLen c := by cases c <;> decide

theorem State.nextStep_toNat (s : State) : s.nextStep.toNat = nextStepNo s := by
  unfold State.nextStep nextStepNo
  cases s.params.fsPhase
  · rfl
  · exact BitVec.toNat_add ..

/-- The length clock runs at the even steps (spec/42_frame_sequencer.md R204). -/
theorem lenClk_nextStep_iff (s : State) : lenClk s.nextStep = true ↔ nextStepNo s % 2 = 0 := by
  have h (n : BitVec 3) : lenClk n = true ↔ n.toNat % 2 = 0 := by revert n; decide
  rw [h, s.nextStep_toNat]

theorem Channel.quirk1_len (clk : Bool) (v : Byte) (x : Channel) :
    (x.quirk1 clk v).len = if clk = false ∧ v.getLsbD 6 = true ∧ x.lenEn = false ∧ 0 < x.len then x.len - 1 else x.len := by
  simp only [Channel.quirk1, Bool.and_eq_true, Bool.not_eq_true', decide_eq_true_eq, and_assoc]
  exact apply_ite Channel.len ..

theorem Channel.quirk1_on (clk : Bool) (v : Byte) (x : Channel) :
    (x.quirk1 clk v).on = if x.lenEn = false ∧ v.getLsbD 6 = true ∧ clk = false ∧ x.len = 1 then false else x.on := by
  unfold Channel.quirk1
  split
  · next hq =>
    simp only [Bool.and_eq_true, Bool.not_eq_true', decide_eq_true_eq] at hq
    obtain ⟨⟨⟨hclk, hv⟩, hen⟩, hpos⟩ := hq
    have hone : x.len - 1 = 0 ↔ x.len = 1 := by omega
    simp only [Channel.countLength, hone, hclk, hv, hen, true_and]
  · next hq =>
    refine (if_neg fun ⟨hen, hv, hclk, hone⟩ => hq ?_).symm
    simp only [hclk, hv, hen, hone, Bool.not_false, Bool.and_self, zero_lt_one, decide_true]

theorem Channel.quirk2_len (m : Nat) (v : Byte) (x : Channel) :
    (x.quirk2 m v).len = if v.getLsbD 7 = true ∧ x.lenEn = true ∧ x.len = m then x.len - 1 else x.len := by
  simp only [Channel.quirk2, Bool.and_eq_true, decide_eq_true_eq, and_assoc]
  exact apply_ite Channel.len ..

theorem Channel.quirk3_len (m : Nat) (v : Byte) (x : Channel) :
    (x.quirk3 m v).len = if v.getLsbD 7 = true ∧ x.len = 0 then m else x.len := by
  simp only [Channel.quirk3, Bool.and_eq_true, decide_eq_true_eq]
  exact apply_ite Channel.len ..

theorem Channel.quirk1_lenEn (clk : Bool) (v : Byte) (x : Channel) : (x.quirk1 clk v).lenEn = x.lenEn := by
  rw [Channel.quirk1_frame]
  rfl

/-- The counter after the three quirks, each seeing what the one before left. With length enabled before the write quirk 1 does nothing,
and without it quirk 2. -/
theorem Channel.trigWrite_len (clk : Bool) {m : Nat} (hm : 2 ≤ m) (v : Byte) (x : Channel) :
    (x.trigWrite clk m v).len =
      lenAfterTrigWrite m x.len (clk = true) (x.lenEn = true) (v.getLsbD 6 = true) (v.getLsbD 7 = true) := by
  change (((x.quirk1 clk v).quirk2 m v).quirk3 m v).len = _
  rw [Channel.quirk3_len, Channel.quirk2_len, Channel.quirk1_lenEn, Channel.quirk1_len, lenAfterTrigWrite]
  cases x.lenEn
  · simp only [Bool.false_eq_true, if_false, false_and, and_false, true_and, Bool.not_eq_true]
    grind
  · simp only [Bool.true_eq_false, if_false, if_true, false_and, and_false]
    grind

theorem Channel.trigWrite_on_eq (clk : Bool) (m : Nat) (v : Byte) (x : Channel) :
    (x.trigWrite clk m v).on = if x.lenEn = false ∧ v.getLsbD 6 = true ∧ clk = false ∧ x.len = 1 then false else x.on := by
  rw [Channel.trigWrite, Channel.quirk3_frame, Channel.quirk2_frame]
  exact x.quirk1_on clk v

/-- An NRx4 write leaves the record of R160 and R161. -/
theorem Channel.trigWrite_eq_afterTrigWrite (s : State) {m : Nat} (hm : 2 ≤ m) (v : Byte) (x : Channel) :
    x.trigWrite (lenClk s.nextStep) m v = afterTrigWrite s m v x := by
  have hclk : lenClk s.nextStep = false ↔ nextStepNo s % 2 = 1 := by
    rw [← Bool.not_eq_true, lenClk_nextStep_iff, Nat.mod_two_not_eq_zero]
  have hen : x.lenEn = false ↔ x.reg4.toNat / 64 % 2 = 0 := by
    rw [← Bool.not_eq_true, Channel.lenEn_iff, lengthEnabled, Nat.mod_two_not_eq_one]
  have hv : v.getLsbD 6 = true ↔ v.toNat / 64 % 2 = 1 := getLsbD_eq_true_iff v 6
  rw [Channel.trigWrite_frame, Channel.trigWrite_len _ hm, Channel.trigWrite_on_eq, afterTrigWrite]
  simp only [lenClk_nextStep_iff, Channel.lenEn_iff, lengthEnabled, getLsbD_seven_iff, hv, hclk, hen]

/-! ### The dispatch of WRITEs (R111) -/

/-- A WRITE of a channel register by its slot: the trigger write, the length write or a plain store (R150, R151, R160). -/
def State.writeSlot (c : Ch) (j : Fin 5) (v : Byte) (s : State) : State :=
  if j = 4 then s.trigWrite c v else if j = 1 then s.storeLength c v else s.storeReg c j v

theorem busWrite_slot {s : State} (hon : s.power = true) {a : Addr} {c : Ch} {j : Fin 5} (h : slot a = some (c, j)) (v : Byte) :
    busWrite s a v = s.writeSlot c j v := by
  obtain ⟨hwave, h52, h50, h51⟩ := addr_of_slot h
  have hoff : ¬ s.power = false := by simp [hon]
  rw [busWrite, if_neg (Nat.not_le.2 hwave), if_neg h52, if_neg hoff, if_neg h50, if_neg h51, h, State.writeSlot, State.trigWrite,
    Channel.trigWrite_eq_afterTrigWrite s (maxLen_ge_two c), State.storeLength_eq, lenLoad_eq]
  rfl

theorem busWrite_nr50 {s : State} (hon : s.power = true) (v : Byte) : busWrite s 0xFF24 v = { s with nr50 := v } := by
  simp [busWrite, hon]

theorem busWrite_nr51 {s : State} (hon : s.power = true) (v : Byte) : busWrite s 0xFF25 v = { s with nr51 := v } := by
  simp [busWrite, hon]

theorem busWrite_unused (s : State) {a : Addr} (h : IsUnusedAddr a) (v : Byte) : busWrite s a v = s := by
  obtain ⟨hwave, h52, h50, h51, hslot⟩ := h
  rw [busWrite, if_neg (Nat.not_le.2 hwave), if_neg h52, if_neg h50, if_neg h51, hslot, ite_self]

theorem busWrite_wave (s : State) (k : BitVec 4) (v : Byte) : busWrite s (0xFF3#12 ++ k) v = s.storeWave k v := by
  rw [busWrite, toNat_waveAddr, if_pos (Nat.le_add_right _ _)]
  rfl

/-- While powered off the dispatch does nothing but at NR52 and wave RAM (R113). -/
theorem busWrite_of_off {s : State} (hoff : s.power = false) {a : Addr} (hwave : a.toNat < 0xFF30) (h52 : a ≠ 0xFF26) (v : Byte) :
    busWrite s a v = s := by
  rw [busWrite, if_neg (Nat.not_le.2 hwave), if_neg h52, if_pos hoff]

theorem gatedWriteOp_busWrite {s : State} (hinit : s.init = true) (f : State → State) {a : Addr} {v : Byte} (hwave : a.toNat < 0xFF30)
    (h52 : a ≠ 0xFF26) (h : s.power = true → busWrite s a v = f s) : gatedWriteOp f s = .next (wrote (busWrite s a v)) := by
  rw [gatedWriteOp_of_init f s hinit]
  cases hp : s.power
  · rw [busWrite_of_off hp hwave h52]
    rfl
  · rw [h hp]
    rfl

theorem exec_slotWrite {i : Instr} {s : State} (hinit : s.init = true) {a : Addr} {c : Ch} {j : Fin 5} {v : Byte}
    (h : slot a = some (c, j)) (he : exec i s = gatedWriteOp (State.writeSlot c j v) s) : exec i s = .next (wrote (busWrite s a v)) := by
  obtain ⟨hwave, h52, -⟩ := addr_of_slot h
  rw [he]
  exact gatedWriteOp_busWrite hinit _ hwave h52 fun hon => busWrite_slot hon h v

theorem discardWrite_busWrite {s : State} (hinit : s.init = true) {a : Addr} (h : IsUnusedAddr a) (v : Byte) :
    discardWrite s = .next (wrote (busWrite s a v)) := by
  rw [discardWrite_of_init s hinit, busWrite_unused s h]

/-- Every WRITE is the dispatch by the address and the byte of its word. -/
theorem exec_writeWord {i : Instr} {s : State} (hinit : s.init = true) {a : Addr} {v : Byte} (hw : encode i = packWord 1 a v) :
    exec i s = .next (wrote (busWrite s a v)) := by
  cases i <;> simp only [encode, packWord_inj, BitVec.ofNat_eq_ofNat, BitVec.reduceEq, false_and, true_and] at hw <;>
    obtain ⟨rfl, rfl⟩ := hw
  case wrNr50 v =>
    exact gatedWriteOp_busWrite hinit (fun s => { s with nr50 := v }) (by decide) (by decide) fun hon => busWrite_nr50 hon v
  case wrNr51 v =>
    exact gatedWriteOp_busWrite hinit (fun s => { s with nr51 := v }) (by decide) (by decide) fun hon => busWrite_nr51 hon v
  case wrNr52 v => exact exec_wrNr52 s v hinit
  case wrWave k v => rw [busWrite_wave, exec_wrWave s k v hinit]
  case wrUnusedFf28To2f x v => exact discardWrite_busWrite hinit (isUnusedAddr_append x) v
  case wrUnusedFf15 v | wrUnusedFf1f v | wrUnusedFf27 v => exact discardWrite_busWrite hinit (by decide) v
  all_goals exact exec_slotWrite hinit rfl rfl

/-- Settles O27: a WRITE word that decodes is its operation's, and every WRITE is the dispatch by the address and byte of its word. -/
theorem writesFollowTheBusDispatch : Obligations.WritesFollowTheBusDispatch := fun _ _ _ _ hinit h =>
  exec_writeWord hinit (encode_of_decode_write h)

end Sys2Proof.Machine
end

section
/-! The channel registers (spec/41_channel_registers.md R150 to R197): the READ of a slot through its mask, and the three WRITEs of a slot
while powered on. Each rule is stated once for a channel and a slot; the registers are its instances. -/

namespace Sys2Proof.Machine

open Sys2Proof.Claims

/-! ### READs of a slot -/

section
variable {s : State} (hinit : s.init = true)
include hinit

theorem readOp_loadReg (c : Ch) (j : Fin 5) (mask : Byte) :
    readOp (State.loadReg c j mask) s = .next (answered s ((s.ch c).reg j ||| mask)) := readOp_of_init _ s hinit

/-- A mask of 0 shows the stored byte (spec/40_register_bank.md R112). -/
theorem readOp_loadReg_unmasked (c : Ch) (j : Fin 5) :
    readOp (State.loadReg c j 0x00) s = .next (answered s ((s.ch c).reg j)) := by
  have hbyte : (s.ch c).reg j ||| 0x00 = (s.ch c).reg j := BitVec.or_zero
  rw [readOp_loadReg hinit, hbyte]

/-- A mask of all ones hides the stored byte (R112). -/
theorem readOp_loadReg_hidden (c : Ch) (j : Fin 5) : readOp (State.loadReg c j 0xFF) s = .next (answered s 0xFF) := by
  have hbyte : (s.ch c).reg j ||| 0xFF = 0xFF := BitVec.or_allOnes
  rw [readOp_loadReg hinit, hbyte]

end

/-- Settles O14: each READ is its slot's through its mask, which shows NR12 and NR22 whole and hides NR13 and NR23. -/
theorem pulseRegisterReads : Obligations.PulseRegisterReads := by
  refine ⟨decode_readWords ⟨rfl, rfl, rfl, rfl, rfl, rfl, rfl, rfl, rfl⟩, fun s hinit => ?_⟩
  have masked := readOp_loadReg hinit
  have unmasked := readOp_loadReg_unmasked hinit
  have hidden := readOp_loadReg_hidden hinit
  exact ⟨masked .c1 0 0x80, masked .c1 1 0x3F, unmasked .c1 2, hidden .c1 3, masked .c1 4 0xBF,
    masked .c2 1 0x3F, unmasked .c2 2, hidden .c2 3, masked .c2 4 0xBF⟩

/-- Settles O15: each READ is its slot's through its mask, which shows NR42 and NR43 whole and hides NR31, NR33 and NR41. -/
theorem waveAndNoiseRegisterReads : Obligations.WaveAndNoiseRegisterReads := by
  refine ⟨decode_readWords ⟨rfl, rfl, rfl, rfl, rfl, rfl, rfl, rfl, rfl⟩, fun s hinit => ?_⟩
  have masked := readOp_loadReg hinit
  have unmasked := readOp_loadReg_unmasked hinit
  have hidden := readOp_loadReg_hidden hinit
  exact ⟨masked .c3 0 0x7F, hidden .c3 1, masked .c3 2 0x9F, hidden .c3 3, masked .c3 4 0xBF,
    hidden .c4 1, unmasked .c4 2, unmasked .c4 3, masked .c4 4 0xBF⟩

/-! ### WRITEs of a slot while powered on -/

section
variable {s : State} (hinit : s.init = true) (hon : s.power = true) (v : Byte)
include hinit hon

/-- A plain store (R150). -/
theorem gatedWriteOp_storeReg (c : Ch) (j : Fin 5) :
    gatedWriteOp (State.storeReg c j v) s = .next (wrote (s.setCh c ((s.ch c).setReg j v))) := gatedWriteOp_of_on _ s hinit hon

/-- The WRITE of NRx1: the store and the length reload (R151). -/
theorem exec_lengthWrite_of_on (c : Ch) :
    exec (lengthWrite c v) s =
      .next (wrote (s.setCh c { s.ch c with reg1 := v, len := if c = .c3 then 256 - v.toNat else 64 - v.toNat % 64 })) := by
  rw [exec_lengthWrite, gatedWriteOp_of_on _ s hinit hon, s.storeLength_eq, lenLoad_eq]
  rfl

/-- The WRITE of NRx4: the quirks and the store (R160, R161). -/
theorem exec_triggerWrite_of_on (c : Ch) :
    exec (triggerWrite c v) s = .next (wrote (s.setCh c (afterTrigWrite s (maxLen c) v (s.ch c)))) := by
  rw [exec_triggerWrite, gatedWriteOp_of_on _ s hinit hon, State.trigWrite,
    Channel.trigWrite_eq_afterTrigWrite s (maxLen_ge_two c)]
  rfl

end

/-- Settles O20: each WRITE is the plain store of its slot. -/
theorem plainRegisterWrites : Obligations.PlainRegisterWrites := by
  refine ⟨fun v => decode_writeWords ⟨rfl, rfl, rfl, rfl, rfl, rfl, rfl, rfl, rfl, rfl⟩, fun s v hinit hon => ?_⟩
  have store := gatedWriteOp_storeReg hinit hon v
  exact ⟨store .c1 0, store .c1 2, store .c1 3, store .c2 2, store .c2 3, store .c3 0, store .c3 2, store .c3 3, store .c4 2,
    store .c4 3⟩

/-- Settles O21: each WRITE is its channel's store and length reload. -/
theorem lengthRegisterWrites : Obligations.LengthRegisterWrites := by
  refine ⟨fun v => decode_writeWords ⟨rfl, rfl, rfl, rfl⟩, fun s v hinit hon => ?_⟩
  have reload := exec_lengthWrite_of_on hinit hon v
  exact ⟨reload .c1, reload .c2, reload .c3, reload .c4⟩

/-- Settles O22: each WRITE is its channel's trigger write, whose quirks in their order leave the record of R160 and R161. -/
theorem triggerRegisterWrites : Obligations.TriggerRegisterWrites := by
  refine ⟨fun v => decode_writeWords ⟨rfl, rfl, rfl, rfl⟩, fun s v hinit hon => ?_⟩
  have trigger := exec_triggerWrite_of_on hinit hon v
  exact ⟨trigger .c1, trigger .c2, trigger .c3, trigger .c4⟩

end Sys2Proof.Machine
end

section
/-! The frame sequencer (spec/42_frame_sequencer.md R201 to R205): what an ADVANCE does to it, and what the tick of one channel depends
on. -/

namespace Sys2Proof.Machine

open Sys2Proof.Claims

/-! ### ADVANCE as an operation -/

theorem exec_advance_next_iff (s t : State) (dsm : Bool) (div : Byte) :
    exec (.advance dsm div) s = .next t ↔ t = if s.init then s.advance dsm div else s.refuse .beforeReset :=
  admitOp_next_iff _ s t

theorem exec_advance_of_init {s : State} (hinit : s.init = true) (dsm : Bool) (div : Byte) :
    exec (.advance dsm div) s = .next (s.advance dsm div) := admitOp_of_init _ s hinit

/-! ### No channel reads another's state (R205) -/

/-- The executed step depends on the frame sequencer, the divider snapshot and the parameters only (R201, R203). -/
theorem State.fsClock_fsEdgeStep_congr {s s' : State} (hparams : s.params = s'.params) (hdiv : s.divSnap = s'.divSnap)
    (hstep : s.fsStep = s'.fsStep) (hedge : s.fsEdgeStep = s'.fsEdgeStep) (dsm : Bool) (div : Byte) :
    (s.fsClock dsm div).fsEdgeStep = (s'.fsClock dsm div).fsEdgeStep := by
  have hnext : s.nextStep = s'.nextStep := by simp only [State.nextStep, hparams, hstep]
  rw [State.fsClock_fsEdgeStep, State.fsClock_fsEdgeStep, hparams, hdiv, hnext, hedge]

/-- Settles O46: the tick of a channel takes its own record, the executed step, wave RAM and the parameters, and a refused ADVANCE leaves
the record as it is. -/
theorem channelsDoNotReadEachOther : Obligations.ChannelsDoNotReadEachOther := by
  intro s s' t t' dsm div c hch hparams hdiv hstep hedge hmem hinit ht ht'
  rw [exec_advance_next_iff] at ht ht'
  subst ht ht'
  rw [← hinit]
  split
  · rw [State.advance_ch, State.advance_ch, State.fsClock_fsEdgeStep_congr hparams hdiv hstep hedge, hch, hparams, hdiv, hmem]
  · exact hch

/-! ### The frame sequencer's clock -/

/-- Every tick consumes its channel's edge flag (R205, spec/10_state.md R62). -/
theorem State.advance_edgesClear (s : State) (dsm : Bool) (div : Byte) : (s.advance dsm div).EdgesClear := by
  intro c
  rw [State.advance_ch]
  obtain ⟨-, hedge, -⟩ := Channel.tickAs_from c s.params.duty s.mem (s.fsClock dsm div).fsEdgeStep
    { s.ch c with edge := (s.ch c).edge || fsEdgeSeen s.params dsm s.divSnap div }
  exact hedge

/-- A sink that issues nothing gets nothing refused (spec/60_exceptions.md R312; assumption log 5). -/
theorem State.mix_of_no_sinkPlan (sum : Nat) {s : State} (h : s.sinkPlan = []) :
    (s.mix sum).refusals = s.refusals ∧ (s.mix sum).sinkPlan = [] := by
  cases hm : (s.rs.mixStep s.params sum).2 with
  | none => rw [s.mix_of_none sum hm]; exact ⟨rfl, h⟩
  | some x => rw [s.mix_of_some sum x hm]; simp [State.emit, h]

theorem State.advance_of_no_sinkPlan {s : State} (h : s.sinkPlan = []) (dsm : Bool) (div : Byte) :
    (s.advance dsm div).refusals = s.refusals ∧ (s.advance dsm div).sinkPlan = [] := by
  have hclock : (s.fsClock dsm div).tickChannels.1.sinkPlan = [] := by simpa using h
  obtain ⟨hrefusals, hplan⟩ := State.mix_of_no_sinkPlan (s.fsClock dsm div).tickChannels.2 hclock
  exact ⟨hrefusals.trans (s.fsClock_refusals dsm div), hplan⟩

/-- Settles O28: the frame sequencer moves by its edge test, and the rest of an ADVANCE leaves it alone. -/
theorem advanceClocksTheFrameSequencer : Obligations.AdvanceClocksTheFrameSequencer := by
  intro s dsm div hinit
  refine ⟨_, exec_advance_of_init hinit dsm div, by simp, fun hseen => ?_, fun hunseen => ?_, s.advance_edgesClear dsm div,
    s.advance_nr50 dsm div, s.advance_nr51 dsm div, s.advance_power dsm div, s.advance_mem dsm div, s.advance_init dsm div,
    s.advance_params dsm div, s.advance_pending dsm div, s.advance_reads dsm div, s.advance_draws dsm div,
    fun hplan => State.advance_of_no_sinkPlan hplan dsm div⟩
  · have hedge := (fsEdgeSeen_iff s dsm div).2 hseen
    rw [State.advance_fsStep, State.advance_fsEdgeStep, State.fsClock_fsStep, State.fsClock_fsEdgeStep, if_pos hedge, if_pos hedge]
    exact ⟨BitVec.toNat_add .., s.nextStep_toNat⟩
  · have hedge := mt (fsEdgeSeen_iff s dsm div).1 hunseen
    rw [State.advance_fsStep, State.advance_fsEdgeStep, State.fsClock_fsStep, State.fsClock_fsEdgeStep, if_neg hedge, if_neg hedge]
    exact ⟨rfl, rfl⟩

end Sys2Proof.Machine
end

section
/-! The sweep of channel 1 (spec/43_pulse_channels.md R224, R227) on the frame sequencer's clock (spec/42_frame_sequencer.md R204): the clocks
of an ADVANCE as numbers, the record at the on gate, and what the sweep makes of it. -/

namespace Sys2Proof.Machine

open Sys2Proof.Claims

/-! ### The clocks of an ADVANCE as numbers (R204) -/

theorem swClk_nextStep_iff (s : State) : swClk s.nextStep = true ↔ nextStepNo s = 2 ∨ nextStepNo s = 6 := by
  have h (n : BitVec 3) : swClk n = true ↔ n.toNat = 2 ∨ n.toNat = 6 := by revert n; decide
  rw [h, s.nextStep_toNat]

/-- On an FS edge the executed step is `NEXTSTEP()` (R203), so a clock class tests that. -/
theorem State.fsClock_clocks_iff (s : State) (dsm : Bool) (div : Byte) (clk : BitVec 3 → Bool) :
    (fsEdgeSeen s.params dsm s.divSnap div && clk (s.fsClock dsm div).fsEdgeStep) = true ↔
      edgeSeen s dsm div ∧ clk s.nextStep = true := by
  rw [← fsEdgeSeen_iff, State.fsClock_fsEdgeStep, Bool.and_eq_true]
  exact and_congr_right fun hseen => by rw [if_pos hseen]

/-- The length clock, on numbers (spec/43_pulse_channels.md R222). -/
theorem Channel.lengthClock_eq {s : State} {dsm : Bool} {div : Byte} {clk : Bool}
    (hclk : clk = true ↔ edgeSeen s dsm div ∧ nextStepNo s % 2 = 0) (x : Channel) :
    x.lengthClock clk = { x with len := lenAfter s dsm div x, on := x.on && !decide (lengthExpires s dsm div x) } := by
  obtain ⟨hc, hen, hpos, e⟩ | ⟨hno, e⟩ := x.lengthClock_cases clk <;> rw [e]
  · have hcounts : lengthCounts s dsm div x := ⟨(hclk.1 hc).1, (hclk.1 hc).2, x.lenEn_iff.1 hen, hpos⟩
    have hzero : x.len - 1 = 0 ↔ lengthExpires s dsm div x := ⟨fun h => ⟨hcounts, by omega⟩, fun h => by omega⟩
    rw [Channel.countLength, lenAfter, if_pos hcounts]
    by_cases hexp : lengthExpires s dsm div x
    · rw [if_pos (hzero.2 hexp), decide_eq_true hexp, Bool.not_true, Bool.and_false]
    · rw [if_neg (mt hzero.1 hexp), decide_eq_false hexp, Bool.not_false, Bool.and_true]
  · have hcounts : ¬ lengthCounts s dsm div x := by
      rintro ⟨hseen, heven, hen, hpos⟩
      rw [hclk.2 ⟨hseen, heven⟩, x.lenEn_iff.2 hen] at hno
      simp [hpos.ne'] at hno
    rw [lenAfter, if_neg hcounts, decide_eq_false (mt And.left hcounts), Bool.not_false, Bool.and_true]

/-! ### The register fields a trigger reads and clears, as numbers -/

theorem Channel.period_toNat (x : Channel) : x.period.toNat = periodNo x := by
  rw [Channel.period, BitVec.toNat_append, ← Nat.shiftLeft_add_eq_or_of_lt (BitVec.isLt _), Nat.shiftLeft_eq,
    toNat_extractLsb'_eq_div]
  simp [periodNo]

theorem Channel.clearTrig_reg4_toNat (x : Channel) : x.clearTrig.reg4.toNat = x.reg4.toNat % 128 :=
  (BitVec.toNat_and ..).trans (Nat.and_two_pow_sub_one_eq_mod _ 7)

/-- The trigger bit is no part of the period. -/
theorem Channel.clearTrig_periodNo (x : Channel) : periodNo x.clearTrig = periodNo x := by
  have hmod : x.clearTrig.reg4.toNat % 8 = x.reg4.toNat % 8 := by
    rw [x.clearTrig_reg4_toNat]
    omega
  rw [periodNo, periodNo, hmod]
  rfl

/-- The length clock does not read the trigger bit. -/
theorem lengthCounts_of_clearTrig (s : State) (dsm : Bool) (div : Byte) {x y : Channel} (hreg4 : y.reg4 = x.clearTrig.reg4)
    (hlen : y.len = x.len) : lengthCounts s dsm div y ↔ lengthCounts s dsm div x := by
  have hen : lengthEnabled y ↔ lengthEnabled x := by
    rw [lengthEnabled, hreg4, x.clearTrig_reg4_toNat]
    omega
  simp only [lengthCounts, hen, hlen]

/-! ### The record at the on gate (spec/43_pulse_channels.md R221, R222) -/

section
variable {s : State} {dsm : Bool} {div : Byte} {x : Channel} {step : BitVec 3}
  (hclk : (x.edge && lenClk step) = true ↔ edgeSeen s dsm div ∧ nextStepNo s % 2 = 0) (trigger : Channel → Channel)
include hclk

theorem Channel.atOnGate_of_noTrigger (hno : ¬ pendingTrigger x) :
    x.atOnGate trigger step =
      { x.takeEdge with len := lenAfter s dsm div x, on := x.on && !decide (lengthExpires s dsm div x) } := by
  rw [Channel.atOnGate, Channel.afterTrigger, if_neg (mt x.trig_iff.1 hno)]
  exact Channel.lengthClock_eq hclk x.takeEdge

theorem Channel.atOnGate_of_trigger (htrig : pendingTrigger x)
    (hreg4 : (trigger x.takeEdge).reg4 = x.clearTrig.reg4)
    (hkeeps : (trigger x.takeEdge).on = true ∧ (trigger x.takeEdge).len = x.takeEdge.len) :
    x.atOnGate trigger step =
      { trigger x.takeEdge with len := lenAfter s dsm div x, on := !decide (lengthExpires s dsm div x) } := by
  obtain ⟨hon, hlen⟩ := hkeeps
  replace hlen : (trigger x.takeEdge).len = x.len := hlen
  rw [Channel.atOnGate, Channel.afterTrigger, if_pos (x.trig_iff.2 htrig), Channel.lengthClock_eq hclk, hon, Bool.true_and]
  simp only [lenAfter, lengthExpires, lengthCounts_of_clearTrig s dsm div hreg4 hlen, hlen]

end

/-! ### The sweep as numbers (R227) -/

theorem Channel.sweepPace_toNat (x : Channel) : x.sweepPace.toNat = sweepPaceNo x := toNat_extractLsb'_eq_div ..

theorem Channel.sweepTarget_eq (x : Channel) : x.sweepTarget = min (sweepTargetNo x x.shadow.toNat) 0x7FF := by
  rw [Channel.sweepTarget, sweepTargetNo, x.sweepShift_eq]
  cases hdown : x.sweepDown
  · have := x.sweepDown_eq_false_iff.1 hdown
    simp [this]
  · have : x.reg0.toNat / 8 % 2 = 1 := (getLsbD_eq_true_iff x.reg0 3).1 hdown
    simp [this]

theorem sweepPaceNo_congr {x y : Channel} (h : x.reg0 = y.reg0) : sweepPaceNo x = sweepPaceNo y := by
  rw [sweepPaceNo, sweepPaceNo, h]

theorem sweepTargetNo_congr {x y : Channel} (h : x.reg0 = y.reg0) : sweepTargetNo x = sweepTargetNo y := by
  funext p
  rw [sweepTargetNo, sweepTargetNo, h]

theorem Channel.sweep_of_no_pace {x : Channel} (h : sweepPaceNo x = 0) : x.sweep = x := by
  obtain ⟨-, e⟩ | ⟨hpace, -⟩ | ⟨hpace, -⟩ := x.sweep_cases
  · exact e
  · exact absurd h (x.sweepPace_ne_zero_iff.1 hpace)
  · exact absurd h (x.sweepPace_ne_zero_iff.1 hpace)

/-- The write-back of a period keeps bits 7:3 of NRx4 (R227). -/
theorem Channel.setPeriod_reg4_toNat (x : Channel) (p : BitVec 11) :
    (x.setPeriod p).reg4.toNat = x.reg4.toNat / 8 * 8 + p.toNat / 256 := by
  have hreg := x.reg4.isLt
  have hp := p.isLt
  rw [Channel.setPeriod, BitVec.toNat_append, ← Nat.shiftLeft_add_eq_or_of_lt (BitVec.isLt _), Nat.shiftLeft_eq,
    toNat_extractLsb'_eq_div, toNat_extractLsb'_eq_div]
  omega

theorem Channel.setPeriod_reg4_div (x : Channel) (p : BitVec 11) : (x.setPeriod p).reg4.toNat / 8 = x.reg4.toNat / 8 := by
  rw [x.setPeriod_reg4_toNat]
  omega

theorem Channel.setPeriod_periodNo (x : Channel) (p : BitVec 11) : periodNo (x.setPeriod p) = p.toNat := by
  have hp := p.isLt
  have hlow : (x.setPeriod p).reg3.toNat = p.toNat % 256 := by simp [Channel.setPeriod]
  rw [periodNo, x.setPeriod_reg4_toNat, hlow]
  omega

/-- An evaluated sweep counts, or computes and turns the channel off, or computes and writes the target back (R227). -/
theorem Channel.sweep_evaluated {x : Channel} (hon : x.on = true) (hpace : sweepPaceNo x ≠ 0) :
    if 2 ≤ x.swCnt.toNat then
      x.sweep.on = true ∧ x.sweep.swCnt.toNat = x.swCnt.toNat - 1 ∧ x.sweep.shadow = x.shadow ∧
        x.sweep.reg3 = x.reg3 ∧ x.sweep.reg4 = x.reg4
    else if 0x7FF ≤ sweepTargetNo x x.shadow.toNat then
      x.sweep.on = false ∧ x.sweep.swCnt.toNat = sweepPaceNo x ∧ x.sweep.shadow = x.shadow ∧
        x.sweep.reg3 = x.reg3 ∧ x.sweep.reg4 = x.reg4
    else
      x.sweep.on = true ∧ x.sweep.swCnt.toNat = sweepPaceNo x ∧
        x.sweep.shadow.toNat = sweepTargetNo x x.shadow.toNat ∧
        periodNo x.sweep = sweepTargetNo x x.shadow.toNat ∧ x.sweep.reg4.toNat / 8 = x.reg4.toNat / 8 := by
  have htarget := x.sweepTarget_eq
  obtain ⟨hzero, -⟩ | ⟨-, hcnt, e⟩ | ⟨-, hcnt, e⟩ := x.sweep_cases
  · exact absurd hzero (x.sweepPace_ne_zero_iff.2 hpace)
  · rw [if_neg (by omega), e]
    obtain ⟨hsat, e⟩ | ⟨hsat, e⟩ := x.sweepCompute_cases <;> rw [e]
    · rw [if_pos (by omega)]
      exact ⟨rfl, x.sweepPace_toNat, rfl, rfl, rfl⟩
    · have hval : (BitVec.ofNat 11 x.sweepTarget).toNat = sweepTargetNo x x.shadow.toNat := by
        rw [BitVec.toNat_ofNat, Nat.mod_eq_of_lt (by omega)]
        omega
      rw [if_neg (by omega)]
      exact ⟨hon, x.sweepPace_toNat, hval, (x.setPeriod_periodNo _).trans hval, x.setPeriod_reg4_div _⟩
  · rw [if_pos hcnt, e]
    exact ⟨hon, decPace_toNat _, rfl, rfl, rfl⟩

/-! ### The tick of channel 1 from the on gate on -/

/-- The two records agree on the on flag, the sweep fields and the period registers. -/
structure Channel.SameSweep (x y : Channel) : Prop where
  on : x.on = y.on
  swCnt : x.swCnt = y.swCnt
  shadow : x.shadow = y.shadow
  reg3 : x.reg3 = y.reg3
  reg4 : x.reg4 = y.reg4

theorem Channel.SameSweep.refl (x : Channel) : x.SameSweep x := ⟨rfl, rfl, rfl, rfl, rfl⟩

theorem Channel.SameSweep.periodNo_eq {x y : Channel} (h : x.SameSweep y) : periodNo x = periodNo y := by
  rw [periodNo, periodNo, h.reg3, h.reg4]

theorem Channel.pulseVoice_sameSweep (t : DutyTable) (env : Bool) (x : Channel) : (x.pulseVoice t env).1.SameSweep x := by
  show (x.envelopeClock env).pulseCount.SameSweep x
  rw [Channel.pulseCount_frame, Channel.envelopeClock_frame]
  exact ⟨rfl, rfl, rfl, rfl, rfl⟩

/-- Of the steps behind the on gate only the sweep touches these fields (R224 to R226). -/
theorem Channel.pulsePlay_sameSweep (t : DutyTable) (sw env : Bool) (x : Channel) :
    (x.pulsePlay t sw env).1.SameSweep (if x.on = true ∧ sw = true then x.sweep else x) := by
  obtain ⟨hoff, e⟩ | ⟨hon, hsw, -, e⟩ | ⟨hon, -, e⟩ := x.pulsePlay_cases t sw env <;> rw [e]
  · rw [if_neg (by simp [hoff])]
    exact .refl x
  · rw [if_pos ⟨hon, hsw⟩]
    exact .refl x.sweep
  · simp only [hon, true_and]
    exact Channel.pulseVoice_sameSweep t env _

/-- The record of channel `c` with the edge flag that the frame sequencer's clock of an ADVANCE leaves (R203). -/
def State.clockedCh (dsm : Bool) (div : Byte) (c : Ch) (s : State) : Channel :=
  { s.ch c with edge := fsEdgeSeen s.params dsm s.divSnap div }

/-- Channel 1 at the on gate of an ADVANCE: the edge flag consumed, a pending trigger acted on, the length clocked. -/
def State.ch1AtOnGate (dsm : Bool) (div : Byte) (s : State) : Channel :=
  (s.clockedCh dsm div .c1).atOnGate (Channel.pulseTrigger true) (s.fsClock dsm div).fsEdgeStep

section
variable {s : State} {dsm : Bool} {div : Byte}

theorem State.clockedCh_lenClk_iff (c : Ch) : ((s.clockedCh dsm div c).edge && lenClk (s.fsClock dsm div).fsEdgeStep) = true ↔
    edgeSeen s dsm div ∧ nextStepNo s % 2 = 0 :=
  (s.fsClock_clocks_iff dsm div lenClk).trans (and_congr_right' (lenClk_nextStep_iff s))

theorem State.clockedCh_swClk_iff (c : Ch) : ((s.clockedCh dsm div c).edge && swClk (s.fsClock dsm div).fsEdgeStep) = true ↔
    sweepClocked s dsm div :=
  (s.fsClock_clocks_iff dsm div swClk).trans (and_congr_right' (swClk_nextStep_iff s))

theorem State.ch1AtOnGate_of_noTrigger (hno : ¬ pendingTrigger s.ch1) :
    s.ch1AtOnGate dsm div = { s.ch1.takeEdge with
      len := lenAfter s dsm div s.ch1
      on := s.ch1.on && !decide (lengthExpires s dsm div s.ch1) } :=
  Channel.atOnGate_of_noTrigger (State.clockedCh_lenClk_iff .c1) _ hno

theorem State.ch1AtOnGate_of_trigger (htrig : pendingTrigger s.ch1) :
    s.ch1AtOnGate dsm div = { s.ch1.takeEdge.pulseTrigger true with
      len := lenAfter s dsm div s.ch1
      on := !decide (lengthExpires s dsm div s.ch1) } := by
  have hreg4 : ((s.clockedCh dsm div .c1).takeEdge.pulseTrigger true).reg4 = s.ch1.clearTrig.reg4 := by
    rw [Channel.pulseTrigger_frame]
    rfl
  exact Channel.atOnGate_of_trigger (State.clockedCh_lenClk_iff .c1) _ htrig hreg4 (Channel.pulseTrigger_on_len true _)

/-- What the sweep of channel 1 works on with no trigger: the fields as they were, the on flag after the length clock. -/
theorem State.ch1AtOnGate_fields_of_noTrigger (hno : ¬ pendingTrigger s.ch1) :
    (s.ch1AtOnGate dsm div).SameSweep { s.ch1 with on := s.ch1.on && !decide (lengthExpires s dsm div s.ch1) } ∧
      (s.ch1AtOnGate dsm div).reg0 = s.ch1.reg0 := by
  rw [State.ch1AtOnGate_of_noTrigger hno]
  exact ⟨⟨rfl, rfl, rfl, rfl, rfl⟩, rfl⟩

/-- What it works on at a trigger: the countdown cleared and the shadow loaded (R221). -/
theorem State.ch1AtOnGate_fields_of_trigger (htrig : pendingTrigger s.ch1) :
    (s.ch1AtOnGate dsm div).on = !decide (lengthExpires s dsm div s.ch1) ∧ (s.ch1AtOnGate dsm div).swCnt = 0 ∧
      (s.ch1AtOnGate dsm div).shadow.toNat = periodNo s.ch1 ∧ (s.ch1AtOnGate dsm div).reg0 = s.ch1.reg0 ∧
      (s.ch1AtOnGate dsm div).reg3 = s.ch1.reg3 ∧ (s.ch1AtOnGate dsm div).reg4.toNat = s.ch1.reg4.toNat % 128 := by
  rw [State.ch1AtOnGate_of_trigger htrig]
  exact ⟨rfl, rfl, s.ch1.clearTrig.period_toNat.trans s.ch1.clearTrig_periodNo, rfl, rfl, s.ch1.clearTrig_reg4_toNat⟩

theorem State.advance_ch_of_edgesClear (hedges : s.EdgesClear) (c : Ch) :
    (s.advance dsm div).ch c =
      (s.clockedCh dsm div c).tickAs c s.params.duty s.mem (s.fsClock dsm div).fsEdgeStep := by
  rw [State.advance_ch, hedges c, Bool.false_or]
  rfl

theorem State.ch1AtOnGate_reg0 : (s.ch1AtOnGate dsm div).reg0 = s.ch1.reg0 := by
  by_cases htrig : pendingTrigger s.ch1
  · obtain ⟨-, -, -, hreg0, -⟩ := State.ch1AtOnGate_fields_of_trigger (dsm := dsm) (div := div) htrig
    exact hreg0
  · exact (State.ch1AtOnGate_fields_of_noTrigger htrig).2

/-- Channel 1 is on at the gate if it was on or is triggered, and its length does not expire (R221 to R223). -/
theorem State.ch1AtOnGate_on_iff :
    (s.ch1AtOnGate dsm div).on = true ↔ (s.ch1.on = true ∨ pendingTrigger s.ch1) ∧ ¬ lengthExpires s dsm div s.ch1 := by
  by_cases htrig : pendingTrigger s.ch1
  · obtain ⟨hon, -⟩ := State.ch1AtOnGate_fields_of_trigger (dsm := dsm) (div := div) htrig
    rw [hon, Bool.not_eq_true', decide_eq_false_iff_not]
    exact (and_iff_right (.inr htrig)).symm
  · obtain ⟨hg, -⟩ := State.ch1AtOnGate_fields_of_noTrigger (dsm := dsm) (div := div) htrig
    rw [hg.on, Bool.and_eq_true, Bool.not_eq_true', decide_eq_false_iff_not, or_iff_left htrig]

section
variable (hedges : s.EdgesClear) (hdac : volumeDacOn s.ch1)
include hedges hdac

/-- Step 5 of the tick (R224): channel 1 sweeps on the sweep's clock and at a trigger, if it is on at the gate. -/
theorem State.advance_ch1_sameSweep :
    (s.advance dsm div).ch1.SameSweep
      (if (s.ch1AtOnGate dsm div).on = true ∧ (sweepClocked s dsm div ∨ pendingTrigger s.ch1)
        then (s.ch1AtOnGate dsm div).sweep else s.ch1AtOnGate dsm div) := by
  have hdac' : (s.clockedCh dsm div .c1).volDac = true := s.ch1.volDac_iff.2 hdac
  have htick := State.advance_ch_of_edgesClear (dsm := dsm) (div := div) hedges .c1
  rw [Channel.tickAs, Channel.tickPulse_atOnGate _ _ _ _ hdac', Bool.true_and] at htick
  have hplay := htick ▸ Channel.pulsePlay_sameSweep _ _ _ _
  simp only [Bool.or_eq_true, State.clockedCh_swClk_iff, Channel.trig_iff] at hplay
  exact hplay

theorem State.advance_ch1_of_sweep (hon : (s.ch1AtOnGate dsm div).on = true)
    (hclk : sweepClocked s dsm div ∨ pendingTrigger s.ch1) :
    (s.advance dsm div).ch1.SameSweep (s.ch1AtOnGate dsm div).sweep := by
  have h := State.advance_ch1_sameSweep (dsm := dsm) (div := div) hedges hdac
  rwa [if_pos ⟨hon, hclk⟩] at h

theorem State.advance_ch1_of_noSweep (hno : sweepPaceNo s.ch1 = 0 ∨ ¬ (sweepClocked s dsm div ∨ pendingTrigger s.ch1) ∨
      lengthExpires s dsm div s.ch1) :
    (s.advance dsm div).ch1.SameSweep (s.ch1AtOnGate dsm div) := by
  have h := State.advance_ch1_sameSweep (dsm := dsm) (div := div) hedges hdac
  obtain hpace | hclk | hexp := hno
  · rwa [Channel.sweep_of_no_pace ((sweepPaceNo_congr State.ch1AtOnGate_reg0).trans hpace), ite_self] at h
  · rwa [if_neg (mt And.right hclk)] at h
  · rwa [if_neg fun hon => (State.ch1AtOnGate_on_iff.1 hon.1).2 hexp] at h

end

end

/-- Settles O35: what the sweep makes of the record at the on gate, with and without a trigger, and what the tick keeps of that record
when the sweep is not evaluated. -/
theorem sweepEvaluation : Obligations.SweepEvaluation := by
  intro s dsm div hinit hedges hdac
  dsimp only
  have hreg0 := State.ch1AtOnGate_reg0 (s := s) (dsm := dsm) (div := div)
  refine ⟨_, exec_advance_of_init hinit dsm div, fun hno hon hpace hclk hlive => ?_, fun htrig hpace hlive => ?_,
    fun hno hstill => ?_, fun htrig hstill => ?_⟩
  · obtain ⟨hg, -⟩ := State.ch1AtOnGate_fields_of_noTrigger (dsm := dsm) (div := div) hno
    have hgon := State.ch1AtOnGate_on_iff.2 ⟨.inl hon, hlive⟩
    have h := State.advance_ch1_of_sweep hedges hdac hgon (.inl hclk)
    have hsweep := Channel.sweep_evaluated hgon (by rwa [sweepPaceNo_congr hreg0])
    rw [sweepPaceNo_congr hreg0, sweepTargetNo_congr hreg0, hg.swCnt, hg.shadow, hg.reg3, hg.reg4] at hsweep
    rwa [h.periodNo_eq, h.on, h.swCnt, h.shadow, h.reg3, h.reg4]
  · obtain ⟨-, hcnt, hshadow, -, hreg3, hreg4⟩ := State.ch1AtOnGate_fields_of_trigger (dsm := dsm) (div := div) htrig
    have hgon := State.ch1AtOnGate_on_iff.2 ⟨.inr htrig, hlive⟩
    have h := State.advance_ch1_of_sweep hedges hdac hgon (.inr htrig)
    have hsweep := Channel.sweep_evaluated hgon (by rwa [sweepPaceNo_congr hreg0])
    rw [if_neg (by rw [hcnt]; decide), sweepPaceNo_congr hreg0, sweepTargetNo_congr hreg0, hreg3] at hsweep
    rwa [h.periodNo_eq, h.on, h.swCnt, h.shadow, h.reg3, h.reg4, ← hshadow, ← hreg4, BitVec.toNat_inj, BitVec.toNat_inj]
  · have h := State.advance_ch1_of_noSweep hedges hdac
      (hstill.imp_right (Or.imp_left fun hclk => not_or.2 ⟨hclk, hno⟩))
    obtain ⟨hg, -⟩ := State.ch1AtOnGate_fields_of_noTrigger (dsm := dsm) (div := div) hno
    exact ⟨h.swCnt.trans hg.swCnt, h.shadow.trans hg.shadow, h.reg3.trans hg.reg3, h.reg4.trans hg.reg4, h.on.trans hg.on⟩
  · have h := State.advance_ch1_of_noSweep hedges hdac (hstill.imp_right .inr)
    obtain ⟨hgon, hcnt, hshadow, -, hreg3, hreg4⟩ := State.ch1AtOnGate_fields_of_trigger (dsm := dsm) (div := div) htrig
    rw [h.on, h.swCnt, h.shadow, h.reg3, h.reg4]
    exact ⟨hcnt, hshadow, hreg3, hreg4, hgon⟩

end Sys2Proof.Machine
end

section
/-! The steps of a tick on numbers (spec/43_pulse_channels.md R221, R226, R228, spec/44_wave_channel.md R253, spec/45_noise_channel.md R271,
R274): the envelope, the cursors, and the noise channel's countdown and LFSR. -/

namespace Sys2Proof.Machine

open Sys2Proof.Claims

/-! ### The envelope (R221, R225, R228) -/

theorem envClk_nextStep_iff (s : State) : envClk s.nextStep = true ↔ nextStepNo s = 7 := by
  have h (n : BitVec 3) : envClk n = true ↔ n.toNat = 7 := by revert n; decide
  rw [h, s.nextStep_toNat]

theorem State.clockedCh_envClk_iff (s : State) (dsm : Bool) (div : Byte) (c : Ch) :
    ((s.clockedCh dsm div c).edge && envClk (s.fsClock dsm div).fsEdgeStep) = true ↔ envelopeClocked s dsm div :=
  (s.fsClock_clocks_iff dsm div envClk).trans (and_congr_right' (envClk_nextStep_iff s))

theorem Channel.latchEnvelope_eq (x : Channel) : x.latchEnvelope = withLatchedEnvelope x := by
  have hvol : x.initVol = BitVec.ofNat 4 (x.reg2.toNat / 16) := by
    apply BitVec.eq_of_toNat_eq
    exact (toNat_extractLsb'_eq_div x.reg2 4 4).trans (BitVec.toNat_ofNat ..).symm
  have hpace : x.cfgPace = BitVec.ofNat 3 (x.reg2.toNat % 8) := by
    apply BitVec.eq_of_toNat_eq
    rw [Channel.cfgPace, toNat_extractLsb'_eq_div, BitVec.toNat_ofNat]
    omega
  have hdir : x.cfgDir = decide (x.reg2.toNat / 8 % 2 = 1) := by
    rw [Bool.eq_iff_iff, decide_eq_true_iff]
    exact getLsbD_eq_true_iff x.reg2 3
  rw [Channel.latchEnvelope, withLatchedEnvelope, hvol, hpace, hdir]

theorem decPace_eq (n : BitVec 3) : decPace n = BitVec.ofNat 3 (n.toNat - 1) := by revert n; decide

theorem stepVolume_eq (up : Bool) (v : BitVec 4) :
    stepVolume up v = BitVec.ofNat 4 (if up = true then min (v.toNat + 1) 15 else v.toNat - 1) := by
  revert up v; decide

theorem Channel.envelopeClock_eq {clocked : Prop} [Decidable clocked] {clk : Bool} (hclk : clk = true ↔ clocked) (x : Channel) :
    x.envelopeClock clk = withEnvelopeStep clocked x := by
  rw [Channel.envelopeClock, withEnvelopeStep]
  by_cases hc : clocked
  · rw [if_pos (hclk.2 hc)]
    obtain ⟨hpace, e⟩ | ⟨hpace, hcnt, e⟩ | ⟨hpace, hcnt, e⟩ := x.envelope_cases <;> rw [e]
    · rw [if_neg fun h => h.2 hpace]
    · rw [if_pos ⟨hc, hpace⟩, if_neg (by omega), stepVolume_eq]
    · rw [if_pos ⟨hc, hpace⟩, if_pos hcnt, decPace_eq]
  · rw [if_neg (mt hclk.1 hc), if_neg (mt And.left hc)]

theorem withEnvelopeStep_frame (clocked : Prop) [Decidable clocked] (x : Channel) : withEnvelopeStep clocked x =
    { x with envCnt := (withEnvelopeStep clocked x).envCnt, envVol := (withEnvelopeStep clocked x).envVol } := by
  unfold withEnvelopeStep
  split_ifs <;> rfl

/-! ### The cursors (R226, R253) -/

theorem periodNo_lt (x : Channel) : periodNo x < 0x800 := by
  have := x.reg3.isLt
  unfold periodNo
  omega

theorem Channel.period_eq (x : Channel) : x.period = BitVec.ofNat 11 (periodNo x) := by
  rw [← x.period_toNat, BitVec.ofNat_toNat, BitVec.setWidth_eq]

theorem countOnce_fst_lt {p : Nat} (hp : p < 0x800) {a : Nat × Nat} (ha : a.1 < 0x800) : (countOnce p a).1 < 0x800 := by
  unfold countOnce
  split
  · exact hp
  · show a.1 + 1 < 0x800
    omega

/-- The period counter's pass of 0x7FF, of a cursor set to a pair. -/
theorem withCursor_pcnt_eq_iff (positions : Nat) {a : Nat × Nat} (ha : a.1 < 0x800) (x : Channel) :
    (withCursor positions a x).pcnt = 0x7FF ↔ a.1 + 1 = 0x800 := by
  rw [BitVec.toNat_eq]
  show a.1 % 2 ^ 11 = 0x7FF ↔ _
  omega

theorem Channel.pulseCount_eq (x : Channel) :
    x.pulseCount =
      if x.pcnt = 0x7FF then
        { x with pcnt := BitVec.ofNat 11 (periodNo x), idx := BitVec.ofNat 5 ((x.idx.toNat + 1) % 8) }
      else { x with pcnt := BitVec.ofNat 11 (x.pcnt.toNat + 1) } := by
  have hidx (n : BitVec 5) : (n + 1) &&& 7 = BitVec.ofNat 5 ((n.toNat + 1) % 8) := by revert n; decide
  have hpcnt : x.pcnt + 1 = BitVec.ofNat 11 (x.pcnt.toNat + 1) := by simp [BitVec.ofNat_add]
  rw [Channel.pulseCount, x.period_eq, hidx, hpcnt]

theorem Channel.waveCount_eq (x : Channel) :
    x.waveCount =
      if x.pcnt = 0x7FF then
        { x with pcnt := BitVec.ofNat 11 (periodNo x), idx := BitVec.ofNat 5 (x.idx.toNat + 1) }
      else { x with pcnt := BitVec.ofNat 11 (x.pcnt.toNat + 1) } := by
  have hidx : x.idx + 1 = BitVec.ofNat 5 (x.idx.toNat + 1) := by simp [BitVec.ofNat_add]
  have hpcnt : x.pcnt + 1 = BitVec.ofNat 11 (x.pcnt.toNat + 1) := by simp [BitVec.ofNat_add]
  rw [Channel.waveCount, x.period_eq, hidx, hpcnt]

section
variable {a : Nat × Nat} (ha : a.1 < 0x800) (x : Channel)
include ha

theorem Channel.pulseCount_withCursor : (withCursor 8 a x).pulseCount = withCursor 8 (countOnce (periodNo x) a) x := by
  have hpcnt : (withCursor 8 a x).pcnt.toNat = a.1 := Nat.mod_eq_of_lt ha
  have hidx : (withCursor 8 a x).idx.toNat = a.2 % 8 := Nat.mod_eq_of_lt (by omega)
  simp only [Channel.pulseCount_eq, withCursor_pcnt_eq_iff 8 ha x, hpcnt, hidx, Nat.mod_add_mod, countOnce]
  split <;> rfl

theorem Channel.waveCount_withCursor : (withCursor 32 a x).waveCount = withCursor 32 (countOnce (periodNo x) a) x := by
  have hpcnt : (withCursor 32 a x).pcnt.toNat = a.1 := Nat.mod_eq_of_lt ha
  have hidx : (withCursor 32 a x).idx.toNat = a.2 % 32 := Nat.mod_eq_of_lt (Nat.mod_lt _ (by decide))
  have hwrap : BitVec.ofNat 5 (a.2 % 32 + 1) = BitVec.ofNat 5 ((a.2 + 1) % 32) := by
    apply BitVec.eq_of_toNat_eq
    simp only [BitVec.toNat_ofNat]
    omega
  simp only [Channel.waveCount_eq, withCursor_pcnt_eq_iff 32 ha x, hpcnt, hidx, hwrap, countOnce]
  split <;> rfl

end

/-- A record stands at its own cursor. -/
theorem withCursor_self (x : Channel) : withCursor 32 (x.pcnt.toNat, x.idx.toNat) x = x := by
  have hidx := x.idx.isLt
  simp only [withCursor, Nat.mod_eq_of_lt hidx, BitVec.ofNat_toNat, BitVec.setWidth_eq]

/-! ### The noise channel (R271, R274, R275) -/

theorem Channel.noisePeriod_eq (x : Channel) : x.noisePeriod = noisePeriodNo x := by
  have hshift : x.noiseShift = x.reg3.toNat / 16 := by
    have := x.reg3.isLt
    rw [Channel.noiseShift, toNat_extractLsb'_eq_div]
    omega
  have hdiv : x.noiseDiv = x.reg3.toNat % 8 := by
    rw [Channel.noiseDiv, toNat_extractLsb'_eq_div]
    simp
  rw [Channel.noisePeriod, noisePeriodNo, hshift, hdiv]
  split
  · rw [Nat.pow_succ, Nat.mul_div_cancel _ (by decide)]
  · rfl

theorem lfsrFeedback_toNat (x : BitVec 15) : (lfsrFeedback x).toNat = (x.toNat + x.toNat / 2) % 2 := by
  have hxor (a b : Bool) : (a ^^ b).toNat = (a.toNat + b.toNat) % 2 := by revert a b; decide
  rw [lfsrFeedback, hxor, BitVec.getLsbD, BitVec.getLsbD, Nat.toNat_testBit, Nat.toNat_testBit]
  omega

/-- The bits above, at and below bit 6 of an LFSR value. -/
theorem toNat_append_around_bit6 (h : BitVec 8) (b : BitVec 1) (l : BitVec 6) :
    (h ++ b ++ l).toNat = h.toNat * 128 + b.toNat * 64 + l.toNat := by
  rw [BitVec.toNat_append, BitVec.toNat_append, ← Nat.shiftLeft_add_eq_or_of_lt (BitVec.isLt _),
    ← Nat.shiftLeft_add_eq_or_of_lt (BitVec.isLt _)]
  simp only [Nat.shiftLeft_eq]
  omega

theorem setBit6 (h : BitVec 8) (b : BitVec 1) (l : BitVec 6) : (h ++ b ++ l) ||| 0x40 = h ++ 1#1 ++ l := by
  have hb : b ||| 1#1 = 1#1 := by revert b; decide
  have hmask : (0x40 : BitVec 15) = 0#8 ++ 1#1 ++ 0#6 := by decide
  rw [hmask, BitVec.or_append, BitVec.or_append, hb, BitVec.or_zero, BitVec.or_zero]

theorem clearBit6 (h : BitVec 8) (b : BitVec 1) (l : BitVec 6) : (h ++ b ++ l) &&& 0x7FBF = h ++ 0#1 ++ l := by
  have hmask : (0x7FBF : BitVec 15) = BitVec.allOnes 8 ++ 0#1 ++ BitVec.allOnes 6 := by decide
  rw [hmask, BitVec.and_append, BitVec.and_append, BitVec.and_zero, BitVec.and_allOnes, BitVec.and_allOnes]

/-- The injection of the feedback at bit 6 in short mode, on numbers (R274). -/
theorem injectBit6_toNat (fb : Bool) (y : BitVec 15) :
    (if fb then y ||| 0x40 else y &&& 0x7FBF).toNat = y.toNat - y.toNat / 64 % 2 * 64 + fb.toNat * 64 := by
  obtain ⟨h, b, l, rfl⟩ : ∃ (h : BitVec 8) (b : BitVec 1) (l : BitVec 6), y = h ++ b ++ l := by
    refine ⟨y.extractLsb' 7 8, y.extractLsb' 6 1, y.extractLsb' 0 6, BitVec.eq_of_toNat_eq ?_⟩
    simp only [toNat_append_around_bit6, toNat_extractLsb'_eq_div]
    omega
  have hb := b.isLt
  have hl := l.isLt
  cases fb
  · simp only [Bool.false_eq_true, if_false, clearBit6, toNat_append_around_bit6, Bool.toNat_false, BitVec.toNat_ofNat]
    omega
  · simp only [if_true, setBit6, toNat_append_around_bit6, Bool.toNat_true, BitVec.toNat_ofNat]
    omega

theorem lfsrStep_toNat (short : Bool) (x : BitVec 15) : (lfsrStep short x).toNat = lfsrNext (short = true) x.toNat := by
  have hshift : (BitVec.ofBool (lfsrFeedback x) ++ x.extractLsb' 1 14).toNat =
      x.toNat / 2 + (x.toNat + x.toNat / 2) % 2 * 2 ^ 14 := by
    have hx := x.isLt
    rw [BitVec.toNat_append, ← Nat.shiftLeft_add_eq_or_of_lt (BitVec.isLt _), Nat.shiftLeft_eq, toNat_extractLsb'_eq_div,
      BitVec.toNat_ofBool, lfsrFeedback_toNat]
    omega
  cases short
  · exact hshift
  · show (if lfsrFeedback x then _ else _ : BitVec 15).toNat = _
    rw [injectBit6_toNat, hshift, lfsrFeedback_toNat]
    rfl

theorem Channel.noiseCount_eq (x : Channel) :
    x.noiseCount =
      if x.ncnt = 0 then
        { x with
          lfsr := BitVec.ofNat 15 (lfsrNext (x.reg3.toNat / 8 % 2 = 1) x.lfsr.toNat)
          ncnt := 2 * noisePeriodNo x }
      else { x with ncnt := x.ncnt - 1 } := by
  have hshort : x.noiseShort = true ↔ x.reg3.toNat / 8 % 2 = 1 := getLsbD_eq_true_iff x.reg3 3
  have hlfsr : lfsrStep x.noiseShort x.lfsr = BitVec.ofNat 15 (lfsrNext (x.reg3.toNat / 8 % 2 = 1) x.lfsr.toNat) := by
    simp only [← hshort, ← lfsrStep_toNat, BitVec.ofNat_toNat, BitVec.setWidth_eq]
  rw [Channel.noiseCount, hlfsr, x.noisePeriod_eq]

end Sys2Proof.Machine
end

section
/-! The tick of every channel by its number (spec/42_frame_sequencer.md R205): the DAC gate, the on gate behind the trigger and the length
clock, and the play behind it. -/

namespace Sys2Proof.Machine

open Sys2Proof.Claims

/-! ### The trigger step of a channel (spec/43_pulse_channels.md R221, spec/44_wave_channel.md R251, spec/45_noise_channel.md R272) -/

/-- What a trigger makes of the record of channel `c`. -/
def Channel.triggerAs : Ch → Channel → Channel
  | .c1 => Channel.pulseTrigger true
  | .c2 => Channel.pulseTrigger false
  | .c3 => Channel.waveTrigger
  | .c4 => Channel.noiseTrigger

theorem Channel.triggerAs_reg4 (c : Ch) (x : Channel) : (x.triggerAs c).reg4 = x.clearTrig.reg4 := by cases c <;> rfl

theorem Channel.triggerAs_on_len (c : Ch) (x : Channel) : (x.triggerAs c).on = true ∧ (x.triggerAs c).len = x.len := by
  cases c <;> exact ⟨rfl, rfl⟩

/-- No trigger is pending at the on gate. -/
theorem Channel.atOnGate_trig (c : Ch) (step : BitVec 3) (x : Channel) : (x.atOnGate (Channel.triggerAs c) step).trig = false := by
  rw [Channel.atOnGate, Channel.lengthClock_frame, Channel.afterTrigger]
  split
  · show ((x.takeEdge.triggerAs c).reg4).getLsbD 7 = false
    rw [Channel.triggerAs_reg4]
    show (x.reg4 &&& 0x7F).getLsbD 7 = false
    simp
  · next h => exact Bool.eq_false_iff.2 h

/-! ### The play behind the on gate -/

/-- What the steps behind the length clock make of the record of channel `c`, given the conditions of the sweep and of the envelope;
for channel 3 in both sub-ticks. -/
def Channel.playAs (c : Ch) (t : DutyTable) (sw env : Bool) (x : Channel) : Channel :=
  match c with
  | .c1 => (x.pulsePlay t sw env).1
  | .c2 => (x.pulsePlay t false env).1
  | .c3 => if x.on then x.waveCount.waveCount else x
  | .c4 => (x.noisePlay env).1

theorem Channel.pulsePlay_fst_of_noSweep (t : DutyTable) (env : Bool) (x : Channel) :
    (x.pulsePlay t false env).1 = if x.on then (x.envelopeClock env).pulseCount else x := by
  cases h : x.on <;> simp [Channel.pulsePlay, Channel.pulseVoice, h]

theorem Channel.playAs_of_off (c : Ch) (t : DutyTable) (sw env : Bool) {x : Channel} (h : x.on = false) :
    x.playAs c t sw env = x := by
  cases c <;> simp [Channel.playAs, Channel.pulsePlay, Channel.noisePlay, h]

theorem Channel.pulsePlay_frame (t : DutyTable) (sw env : Bool) (x : Channel) :
    (x.pulsePlay t sw env).1 = { x with
      reg3 := (x.pulsePlay t sw env).1.reg3
      reg4 := (x.pulsePlay t sw env).1.reg4
      on := (x.pulsePlay t sw env).1.on
      envVol := (x.pulsePlay t sw env).1.envVol
      envCnt := (x.pulsePlay t sw env).1.envCnt
      swCnt := (x.pulsePlay t sw env).1.swCnt
      shadow := (x.pulsePlay t sw env).1.shadow
      idx := (x.pulsePlay t sw env).1.idx
      pcnt := (x.pulsePlay t sw env).1.pcnt } := by
  obtain ⟨-, e⟩ | ⟨-, -, -, e⟩ | ⟨-, -, e⟩ := x.pulsePlay_cases t sw env <;> rw [e]
  · rw [x.sweep_frame]
  · rw [Channel.pulseVoice, Channel.pulseCount_frame, Channel.envelopeClock_frame]
    split
    · rw [x.sweep_frame]
    · rfl

/-! ### The tick as the gate and the play -/

theorem Channel.tickWaveTwice_of_dacOff (mem : List Host.Cell) (step : BitVec 3) {x : Channel} (h : x.waveDac = false) :
    x.tickWaveTwice mem step = ({ x with on := false, edge := false }, 0) := by
  have hsecond : ({ x with on := false, edge := false } : Channel).waveDac = false := h
  simp only [Channel.tickWaveTwice, x.tickWave_of_dacOff mem step h, Channel.tickWave_of_dacOff mem step _ hsecond]

theorem Channel.tickAs_of_dacOff (c : Ch) (t : DutyTable) (mem : List Host.Cell) (step : BitVec 3) {x : Channel}
    (h : x.dacAs c = false) : x.tickAs c t mem step = { x with on := false, edge := false } := by
  cases c with
  | c1 => exact congrArg Prod.fst (x.tickPulse_of_dacOff true t step h)
  | c2 => exact congrArg Prod.fst (x.tickPulse_of_dacOff false t step h)
  | c3 => exact congrArg Prod.fst (Channel.tickWaveTwice_of_dacOff mem step h)
  | c4 => exact congrArg Prod.fst (x.tickNoise_of_dacOff step h)

/-- A sub-tick with no edge flag and no trigger has only the on gate and the play. -/
theorem Channel.tickWave_of_idle (mem : List Host.Cell) (step : BitVec 3) {x : Channel} (hdac : x.waveDac = true)
    (hedge : x.edge = false) (htrig : x.trig = false) : x.tickWave mem step = x.wavePlay mem := by
  have htake : x.takeEdge = x := by rw [Channel.takeEdge, ← hedge]
  have hgate : x.atOnGate Channel.waveTrigger step = x := by
    rw [Channel.atOnGate, Channel.afterTrigger, htrig, hedge, htake]
    rfl
  rw [x.tickWave_atOnGate mem step hdac, hgate]

/-- The two sub-ticks share one gate: the second has no edge flag and no trigger left (spec/44_wave_channel.md R252). -/
theorem Channel.tickWaveTwice_of_dacOn (mem : List Host.Cell) (step : BitVec 3) {x : Channel} (hdac : x.waveDac = true) :
    x.tickWaveTwice mem step =
      if (x.atOnGate Channel.waveTrigger step).on then
        ((x.atOnGate Channel.waveTrigger step).waveCount.waveCount,
          ((x.atOnGate Channel.waveTrigger step).waveCount.waveOutput mem +
            (x.atOnGate Channel.waveTrigger step).waveCount.waveCount.waveOutput mem) / 2)
      else (x.atOnGate Channel.waveTrigger step, 0) := by
  have hfirst := x.tickWave_atOnGate mem step hdac
  obtain ⟨hreg0, hedge, -⟩ := hfirst ▸ x.tickWave_from mem step
  have htrig := x.atOnGate_trig .c3 step
  change (x.atOnGate Channel.waveTrigger step).trig = false at htrig
  simp only [Channel.tickWaveTwice, hfirst]
  generalize x.atOnGate Channel.waveTrigger step = y at hreg0 hedge htrig ⊢
  have hsecond : (y.wavePlay mem).1.tickWave mem step = (y.wavePlay mem).1.wavePlay mem := by
    refine Channel.tickWave_of_idle mem step ?_ hedge ?_
    · exact (congrArg (BitVec.getLsbD · 7) hreg0).trans hdac
    · rw [Channel.wavePlay_fst, Channel.waveCount_frame]
      split <;> exact htrig
  rw [hsecond]
  cases hon : y.on
  · simp [Channel.wavePlay, hon]
  · have hon' : y.waveCount.on = true := by rw [y.waveCount_frame]; exact hon
    simp [Channel.wavePlay, hon, hon']

theorem Channel.tickAs_of_dacOn (c : Ch) (t : DutyTable) (mem : List Host.Cell) (step : BitVec 3) {x : Channel}
    (h : x.dacAs c = true) : x.tickAs c t mem step =
      (x.atOnGate (Channel.triggerAs c) step).playAs c t ((x.edge && swClk step) || x.trig) (x.edge && envClk step) := by
  cases c with
  | c1 => exact congrArg Prod.fst (x.tickPulse_atOnGate true t step h)
  | c2 => exact congrArg Prod.fst (x.tickPulse_atOnGate false t step h)
  | c3 => exact (congrArg Prod.fst (Channel.tickWaveTwice_of_dacOn mem step h)).trans (apply_ite Prod.fst ..)
  | c4 => exact congrArg Prod.fst (x.tickNoise_atOnGate step h)

theorem Channel.playAs_len (c : Ch) (t : DutyTable) (sw env : Bool) (x : Channel) : (x.playAs c t sw env).len = x.len := by
  cases c with
  | c1 | c2 => rw [Channel.playAs, Channel.pulsePlay_frame]
  | c3 =>
    rw [Channel.playAs, Channel.waveCount_frame, x.waveCount_frame]
    split <;> rfl
  | c4 => exact Channel.noisePlay_len env x

/-- Behind the on gate only an evaluated sweep touches the on flag (R224, R227). -/
theorem Channel.playAs_on (c : Ch) (t : DutyTable) (sw env : Bool) (x : Channel) (h : c ≠ .c1 ∨ sweepPaceNo x = 0) :
    (x.playAs c t sw env).on = x.on := by
  cases c with
  | c1 =>
    have hsweep := Channel.sweep_of_no_pace (h.resolve_left (absurd rfl))
    have hsame := x.pulsePlay_sameSweep t sw env
    rw [hsweep, ite_self] at hsame
    exact hsame.on
  | c2 =>
    have hsame := x.pulsePlay_sameSweep t false env
    rw [if_neg (by simp)] at hsame
    exact hsame.on
  | c3 =>
    rw [Channel.playAs, Channel.waveCount_frame, x.waveCount_frame]
    split <;> rfl
  | c4 => exact Channel.noisePlay_on env x

end Sys2Proof.Machine
end

section
/-! What an ADVANCE leaves alone in the channels, and what it does to one that is off (spec/43_pulse_channels.md R220 to R223): the frame
of the gate and of the play, the record at the on gate on numbers, and the length clock. -/

namespace Sys2Proof.Machine

open Sys2Proof.Claims

/-! ### The frame of a tick with the DAC on -/

/-- What a tick of channel `c` that found the record `x` leaves alone in the record `y`. -/
structure Channel.TickFrame (c : Ch) (x y : Channel) : Prop where
  reg0 : y.reg0 = x.reg0
  reg1 : y.reg1 = x.reg1
  reg2 : y.reg2 = x.reg2
  period : c ≠ .c1 ∨ sweepPaceNo x = 0 → y.reg3 = x.reg3 ∧ y.reg4.toNat % 8 = x.reg4.toNat % 8
  lengthBits : y.reg4.toNat / 8 % 16 = x.reg4.toNat / 8 % 16
  trig : pendingTrigger y → pendingTrigger x
  sweep : c ≠ .c1 → y.swCnt = x.swCnt ∧ y.shadow = x.shadow
  volume : c = .c3 → y.envVol = x.envVol ∧ y.envCnt = x.envCnt
  latched : c = .c3 ∨ ¬ pendingTrigger x → y.envPace = x.envPace ∧ y.envDir = x.envDir
  noise : c ≠ .c4 → y.lfsr = x.lfsr ∧ y.ncnt = x.ncnt
  cursor : c = .c4 → y.idx = x.idx ∧ y.pcnt = x.pcnt

theorem Channel.TickFrame.trans {c : Ch} {x y z : Channel} (h : y.TickFrame c z) (g : x.TickFrame c y) : x.TickFrame c z where
  reg0 := h.reg0.trans g.reg0
  reg1 := h.reg1.trans g.reg1
  reg2 := h.reg2.trans g.reg2
  period hp := by
    obtain ⟨g3, g4⟩ := g.period hp
    obtain ⟨h3, h4⟩ := h.period (hp.imp_right (sweepPaceNo_congr g.reg0).trans)
    exact ⟨h3.trans g3, h4.trans g4⟩
  lengthBits := h.lengthBits.trans g.lengthBits
  trig hz := g.trig (h.trig hz)
  sweep hc := ⟨(h.sweep hc).1.trans (g.sweep hc).1, (h.sweep hc).2.trans (g.sweep hc).2⟩
  volume hc := ⟨(h.volume hc).1.trans (g.volume hc).1, (h.volume hc).2.trans (g.volume hc).2⟩
  latched hl := by
    obtain ⟨gpace, gdir⟩ := g.latched hl
    obtain ⟨hpace, hdir⟩ := h.latched (hl.imp_right (mt g.trig))
    exact ⟨hpace.trans gpace, hdir.trans gdir⟩
  noise hc := ⟨(h.noise hc).1.trans (g.noise hc).1, (h.noise hc).2.trans (g.noise hc).2⟩
  cursor hc := ⟨(h.cursor hc).1.trans (g.cursor hc).1, (h.cursor hc).2.trans (g.cursor hc).2⟩

theorem Channel.TickFrame.refl (c : Ch) (x : Channel) : x.TickFrame c x where
  reg0 := rfl
  reg1 := rfl
  reg2 := rfl
  period _ := ⟨rfl, rfl⟩
  lengthBits := rfl
  trig := id
  sweep _ := ⟨rfl, rfl⟩
  volume _ := ⟨rfl, rfl⟩
  latched _ := ⟨rfl, rfl⟩
  noise _ := ⟨rfl, rfl⟩
  cursor _ := ⟨rfl, rfl⟩

/-- A trigger clears its bit and writes no other register bit. -/
theorem Channel.triggerAs_frame (c : Ch) {x : Channel} (htrig : pendingTrigger x) : x.TickFrame c (x.triggerAs c) := by
  have hreg4 : (x.triggerAs c).reg4.toNat = x.reg4.toNat % 128 := by rw [x.triggerAs_reg4 c, x.clearTrig_reg4_toNat]
  exact {
    reg0 := by cases c <;> rfl
    reg1 := by cases c <;> rfl
    reg2 := by cases c <;> rfl
    period := fun _ => ⟨by cases c <;> rfl, by omega⟩
    lengthBits := by omega
    trig := fun _ => htrig
    sweep := fun hc => by
      cases c with
      | c1 => exact absurd rfl hc
      | _ => exact ⟨rfl, rfl⟩
    volume := fun hc => by subst hc; exact ⟨rfl, rfl⟩
    latched := fun hl => by
      obtain rfl | hno := hl
      · exact ⟨rfl, rfl⟩
      · exact absurd htrig hno
    noise := fun hc => by
      cases c with
      | c4 => exact absurd rfl hc
      | _ => exact ⟨rfl, rfl⟩
    cursor := fun hc => by subst hc; exact ⟨rfl, rfl⟩ }

theorem Channel.atOnGate_frame (c : Ch) (step : BitVec 3) (x : Channel) :
    x.TickFrame c (x.atOnGate (Channel.triggerAs c) step) := by
  have hclock (y : Channel) (clk : Bool) (h : x.TickFrame c y) : x.TickFrame c (y.lengthClock clk) := by
    rw [y.lengthClock_frame]
    exact { h with }
  refine hclock _ _ ?_
  rw [Channel.afterTrigger]
  split
  · next htrig => exact { Channel.triggerAs_frame c (x := x.takeEdge) (x.trig_iff.1 htrig) with }
  · exact { Channel.TickFrame.refl c x with }

/-- A sweep writes no bit of NRx4 above the period (spec/43_pulse_channels.md R227). -/
theorem Channel.sweep_reg4_div (x : Channel) : x.sweep.reg4.toNat / 8 = x.reg4.toNat / 8 := by
  obtain ⟨-, e⟩ | ⟨-, -, e⟩ | ⟨-, -, e⟩ := x.sweep_cases <;> rw [e]
  obtain ⟨-, e⟩ | ⟨-, e⟩ := x.sweepCompute_cases <;> rw [e]
  exact x.setPeriod_reg4_div _

theorem Channel.pulsePlay_reg4_div (t : DutyTable) (sw env : Bool) (x : Channel) :
    (x.pulsePlay t sw env).1.reg4.toNat / 8 = x.reg4.toNat / 8 := by
  rw [(x.pulsePlay_sameSweep t sw env).reg4]
  split
  · exact x.sweep_reg4_div
  · rfl

theorem Channel.playAs_frame (c : Ch) (t : DutyTable) (sw env : Bool) (x : Channel) : x.TickFrame c (x.playAs c t sw env) := by
  cases c with
  | c1 =>
    have hdiv := x.pulsePlay_reg4_div t sw env
    have hstill (hpace : sweepPaceNo x = 0) : (x.pulsePlay t sw env).1.SameSweep x := by
      have h := x.pulsePlay_sameSweep t sw env
      rwa [Channel.sweep_of_no_pace hpace, ite_self] at h
    rw [Channel.playAs, Channel.pulsePlay_frame]
    exact { Channel.TickFrame.refl .c1 x with
      period := fun hp => by
        have h := hstill (hp.resolve_left (absurd rfl))
        exact ⟨h.reg3, congrArg (·.toNat % 8) h.reg4⟩
      lengthBits := congrArg (· % 16) hdiv
      trig := fun h => by
        simp only [pendingTrigger] at h ⊢
        omega
      sweep := absurd rfl
      volume := nofun
      cursor := nofun }
  | c2 =>
    have h : (x.pulsePlay t false env).1.SameSweep x := by
      have h := x.pulsePlay_sameSweep t false env
      rwa [if_neg (by simp)] at h
    rw [Channel.playAs, Channel.pulsePlay_frame, h.reg3, h.reg4, h.swCnt, h.shadow]
    exact { Channel.TickFrame.refl .c2 x with volume := nofun, cursor := nofun }
  | c3 =>
    rw [Channel.playAs, Channel.waveCount_frame, x.waveCount_frame]
    split <;> exact { Channel.TickFrame.refl .c3 x with cursor := nofun }
  | c4 =>
    rw [Channel.playAs, Channel.noisePlay_fst, Channel.noiseCount_frame, Channel.envelopeClock_frame]
    split
    · exact { Channel.TickFrame.refl .c4 x with volume := nofun, noise := absurd rfl }
    · exact .refl .c4 x

/-! ### An ADVANCE as the DAC gate, the on gate and the play (R220 to R223) -/

theorem State.fsClock_ch (s : State) (dsm : Bool) (div : Byte) (c : Ch) :
    (s.fsClock dsm div).ch c = { s.ch c with edge := (s.ch c).edge || fsEdgeSeen s.params dsm s.divSnap div } := by
  cases c
  · exact s.fsClock_ch1 dsm div
  · exact s.fsClock_ch2 dsm div
  · exact s.fsClock_ch3 dsm div
  · exact s.fsClock_ch4 dsm div

theorem State.advance_ch_eq_tickAs (s : State) (dsm : Bool) (div : Byte) (c : Ch) :
    (s.advance dsm div).ch c =
      ((s.fsClock dsm div).ch c).tickAs c s.params.duty s.mem (s.fsClock dsm div).fsEdgeStep := by
  rw [s.advance_ch, s.fsClock_ch]

theorem State.fsClock_dacAs (s : State) (dsm : Bool) (div : Byte) (c : Ch) :
    ((s.fsClock dsm div).ch c).dacAs c = true ↔ dacOn s c := by
  rw [s.fsClock_ch, ← s.dacAs_iff]
  cases c <;> rfl

/-- The record of channel `c` at the on gate of an ADVANCE, if its DAC is on. -/
def State.gateCh (dsm : Bool) (div : Byte) (c : Ch) (s : State) : Channel :=
  ((s.fsClock dsm div).ch c).atOnGate (Channel.triggerAs c) (s.fsClock dsm div).fsEdgeStep

section
variable {s : State} (dsm : Bool) (div : Byte) {c : Ch}

theorem State.advance_ch_of_dacOff (hdac : ¬ dacOn s c) :
    (s.advance dsm div).ch c = { s.ch c with on := false, edge := false } := by
  rw [s.advance_ch_eq_tickAs, Channel.tickAs_of_dacOff c _ _ _ (Bool.eq_false_iff.2 (mt (s.fsClock_dacAs dsm div c).1 hdac)),
    s.fsClock_ch]

/-- With the DAC on an ADVANCE plays the record at the on gate, on the conditions of the sweep and the envelope. -/
theorem State.advance_ch_of_dacOn (hdac : dacOn s c) : ∃ sw env,
    (s.advance dsm div).ch c = (s.gateCh dsm div c).playAs c s.params.duty sw env ∧
      (s.EdgesClear → (sw = true ↔ sweepClocked s dsm div ∨ pendingTrigger (s.ch c)) ∧
        (env = true ↔ envelopeClocked s dsm div)) := by
  refine ⟨_, _, (s.advance_ch_eq_tickAs dsm div c).trans (Channel.tickAs_of_dacOn c _ _ _ ((s.fsClock_dacAs dsm div c).2 hdac)),
    fun hedges => ?_⟩
  have hclocked : (s.fsClock dsm div).ch c = s.clockedCh dsm div c := by
    rw [s.fsClock_ch, hedges c, Bool.false_or]
    rfl
  rw [hclocked, Bool.or_eq_true, State.clockedCh_swClk_iff, s.clockedCh_envClk_iff, Channel.trig_iff]
  exact ⟨Iff.rfl, Iff.rfl⟩

/-- The length clock leaves what the trigger step left, but for the counter and the on flag. -/
theorem State.gateCh_clock (s : State) (c : Ch) :
    s.gateCh dsm div c = { ((s.fsClock dsm div).ch c).afterTrigger (Channel.triggerAs c) with
      len := (s.gateCh dsm div c).len, on := (s.gateCh dsm div c).on } :=
  Channel.lengthClock_frame _ _

theorem State.gateCh_frame (s : State) (c : Ch) : (s.ch c).TickFrame c (s.gateCh dsm div c) := by
  refine (Channel.atOnGate_frame c _ _).trans ?_
  rw [s.fsClock_ch]
  exact { Channel.TickFrame.refl c (s.ch c) with }

/-- With its DAC on the tick of a channel keeps the frame, and leaves no trigger pending. -/
theorem State.advance_ch_frame (hdac : dacOn s c) :
    (s.ch c).TickFrame c ((s.advance dsm div).ch c) ∧ ¬ pendingTrigger ((s.advance dsm div).ch c) := by
  obtain ⟨sw, env, e, -⟩ := State.advance_ch_of_dacOn dsm div hdac
  have hplay := (s.gateCh dsm div c).playAs_frame c s.params.duty sw env
  rw [e]
  refine ⟨hplay.trans (s.gateCh_frame dsm div c), fun htrig => ?_⟩
  have hgate := (Channel.trig_iff _).2 (hplay.trig htrig)
  cases hgate.symm.trans (Channel.atOnGate_trig c _ _)

end

/-- Settles O30: the DAC gate. -/
theorem dacOffStopsTheChannel : Obligations.DacOffStopsTheChannel := fun _ dsm div hinit =>
  ⟨_, exec_advance_of_init hinit dsm div, fun _ hdac => State.advance_ch_of_dacOff dsm div hdac⟩

/-- Settles O29: a channel with its DAC off changes in its flags only, one with its DAC on keeps the frame of a tick. -/
theorem advanceChannelFrame : Obligations.AdvanceChannelFrame := by
  intro s dsm div hinit
  refine ⟨_, exec_advance_of_init hinit dsm div, fun c => ?_⟩
  by_cases hdac : dacOn s c
  · obtain ⟨h, hidle⟩ := State.advance_ch_frame dsm div hdac
    have hbits := h.lengthBits
    refine ⟨h.reg0, h.reg1, h.reg2, fun hc => h.period ?_, ?_, h.sweep, h.volume, fun hl => h.latched ?_, h.noise, h.cursor⟩
    · by_cases hc1 : c = .c1
      · subst hc1
        exact hc
      · exact .inl hc1
    · rw [if_pos hdac]
      simp only [pendingTrigger] at hidle
      omega
    · exact hl.imp_right fun h => h.resolve_right (not_not_intro hdac)
  · rw [State.advance_ch_of_dacOff dsm div hdac, if_neg hdac]
    simp

/-! ### The record at the on gate on numbers -/

section
variable {s : State} {dsm : Bool} {div : Byte} {c : Ch}

/-- A channel that is off with no trigger stands at the gate as it was, but for the length clock. -/
theorem State.gateCh_of_off (hoff : (s.ch c).on = false) (hno : ¬ pendingTrigger (s.ch c)) :
    s.gateCh dsm div c = { s.ch c with edge := false, len := (s.gateCh dsm div c).len } := by
  have htrig : ((s.fsClock dsm div).ch c).trig = false := by
    rw [s.fsClock_ch]
    exact Bool.eq_false_iff.2 (mt (s.ch c).trig_iff.1 hno)
  have hgate : (s.gateCh dsm div c).on = false := Bool.eq_false_iff.2 fun h => by
    obtain hon | hon := Channel.atOnGate_on _ _ _ h
    · rw [s.fsClock_ch] at hon
      cases hoff.symm.trans hon
    · cases htrig.symm.trans hon
  refine (s.gateCh_clock dsm div c).trans ?_
  rw [hgate.trans hoff.symm, Channel.afterTrigger, htrig, if_neg Bool.false_ne_true, s.fsClock_ch]
  rfl

variable (hedges : s.EdgesClear)
include hedges

theorem State.fsClock_ch_takeEdge : ((s.fsClock dsm div).ch c).takeEdge = s.ch c := by
  rw [s.fsClock_ch]
  show ({ s.ch c with edge := false } : Channel) = s.ch c
  rw [← hedges c]

theorem State.fsClock_ch_lenClk_iff :
    (((s.fsClock dsm div).ch c).edge && lenClk (s.fsClock dsm div).fsEdgeStep) = true ↔
      edgeSeen s dsm div ∧ nextStepNo s % 2 = 0 := by
  rw [s.fsClock_ch, hedges c, Bool.false_or]
  exact State.clockedCh_lenClk_iff c

theorem State.gateCh_of_noTrigger (hno : ¬ pendingTrigger (s.ch c)) :
    s.gateCh dsm div c = { s.ch c with
      len := lenAfter s dsm div (s.ch c)
      on := (s.ch c).on && !decide (lengthExpires s dsm div (s.ch c)) } := by
  have htrig : ¬ pendingTrigger ((s.fsClock dsm div).ch c) := by rwa [s.fsClock_ch]
  rw [State.gateCh, Channel.atOnGate_of_noTrigger (State.fsClock_ch_lenClk_iff hedges) _ htrig, State.fsClock_ch_takeEdge hedges,
    s.fsClock_ch]
  rfl

theorem State.gateCh_of_trigger (htrig : pendingTrigger (s.ch c)) :
    s.gateCh dsm div c = { (s.ch c).triggerAs c with
      len := lenAfter s dsm div (s.ch c)
      on := !decide (lengthExpires s dsm div (s.ch c)) } := by
  have htrig' : pendingTrigger ((s.fsClock dsm div).ch c) := by rwa [s.fsClock_ch]
  rw [State.gateCh, Channel.atOnGate_of_trigger (State.fsClock_ch_lenClk_iff hedges) _ htrig'
    (by rw [Channel.triggerAs_reg4]; rfl) (Channel.triggerAs_on_len c _), State.fsClock_ch_takeEdge hedges, s.fsClock_ch]
  rfl

theorem State.gateCh_len : (s.gateCh dsm div c).len = lenAfter s dsm div (s.ch c) := by
  by_cases htrig : pendingTrigger (s.ch c)
  · rw [State.gateCh_of_trigger hedges htrig]
  · rw [State.gateCh_of_noTrigger hedges htrig]

/-- A channel is on at the gate if it was on or is triggered, and its length does not expire (R221 to R223). -/
theorem State.gateCh_on_iff : (s.gateCh dsm div c).on = true ↔
    ((s.ch c).on = true ∨ pendingTrigger (s.ch c)) ∧ ¬ lengthExpires s dsm div (s.ch c) := by
  by_cases htrig : pendingTrigger (s.ch c)
  · rw [State.gateCh_of_trigger hedges htrig]
    show (!decide (lengthExpires s dsm div (s.ch c))) = true ↔ _
    rw [Bool.not_eq_true', decide_eq_false_iff_not, and_iff_right (.inr htrig)]
  · rw [State.gateCh_of_noTrigger hedges htrig]
    show ((s.ch c).on && !decide (lengthExpires s dsm div (s.ch c))) = true ↔ _
    rw [Bool.and_eq_true, Bool.not_eq_true', decide_eq_false_iff_not, or_iff_left htrig]

end

/-! ### The length clock (R222) -/

section
variable {s : State} {dsm : Bool} {div : Byte} {c : Ch}

/-- The play does not touch the length counter. -/
theorem State.advance_ch_len (hedges : s.EdgesClear) (hdac : dacOn s c) :
    ((s.advance dsm div).ch c).len = lenAfter s dsm div (s.ch c) := by
  obtain ⟨sw, env, e, -⟩ := State.advance_ch_of_dacOn dsm div hdac
  rw [e, Channel.playAs_len, State.gateCh_len hedges]

/-- A channel that is off at the gate holds what the gate left. -/
theorem State.advance_ch_of_gate_off (hdac : dacOn s c) (hoff : (s.gateCh dsm div c).on = false) :
    (s.advance dsm div).ch c = s.gateCh dsm div c := by
  obtain ⟨sw, env, e, -⟩ := State.advance_ch_of_dacOn dsm div hdac
  rw [e, Channel.playAs_of_off c _ sw env hoff]

theorem State.advance_ch_of_off (hoff : (s.ch c).on = false) (hno : ¬ pendingTrigger (s.ch c)) :
    (s.advance dsm div).ch c = { s.ch c with edge := false, len := ((s.advance dsm div).ch c).len } := by
  by_cases hdac : dacOn s c
  · have hgate := State.gateCh_of_off (dsm := dsm) (div := div) hoff hno
    rw [State.advance_ch_of_gate_off hdac (by rw [hgate]; exact hoff)]
    exact hgate
  · rw [State.advance_ch_of_dacOff dsm div hdac, ← hoff]

end

/-- Settles O32: the counter is what the gate leaves, and behind the gate only the sweep of channel 1 turns a channel off. -/
theorem lengthClock : Obligations.LengthClock := by
  intro s dsm div hinit hedges
  refine ⟨_, exec_advance_of_init hinit dsm div, fun c => ⟨?_, fun hon hsweep hdac hlive => ?_⟩⟩
  · split
    · next h =>
      obtain ⟨hseen, heven, hdac, hen, hpos⟩ := h
      have hcounts : lengthCounts s dsm div (s.ch c) := ⟨hseen, heven, hen, hpos⟩
      refine ⟨(State.advance_ch_len hedges hdac).trans (if_pos hcounts), fun hone => ?_⟩
      have hgate : (s.gateCh dsm div c).on = false :=
        Bool.eq_false_iff.2 fun h => ((State.gateCh_on_iff hedges).1 h).2 ⟨hcounts, hone⟩
      rw [State.advance_ch_of_gate_off hdac hgate, hgate]
    · next h =>
      by_cases hdac : dacOn s c
      · exact (State.advance_ch_len hedges hdac).trans
          (if_neg fun ⟨hseen, heven, hen, hpos⟩ => h ⟨hseen, heven, hdac, hen, hpos⟩)
      · rw [State.advance_ch_of_dacOff dsm div hdac]
  · obtain ⟨sw, env, e, -⟩ := State.advance_ch_of_dacOn dsm div hdac
    have hpace : c ≠ .c1 ∨ sweepPaceNo (s.gateCh dsm div c) = 0 := by
      rw [sweepPaceNo_congr (s.gateCh_frame dsm div c).reg0]
      by_cases hc1 : c = .c1
      · subst hc1
        exact hsweep
      · exact .inl hc1
    rw [e, Channel.playAs_on c _ sw env _ hpace]
    exact (State.gateCh_on_iff hedges).2 ⟨hon, hlive⟩

end Sys2Proof.Machine
end

section
/-! The pulse channels in an ADVANCE (spec/43_pulse_channels.md R221 to R228, spec/60_exceptions.md R313): the trigger tick, the period
counter, and the envelope clock that channel 4 shares. -/

namespace Sys2Proof.Machine

open Sys2Proof.Claims

/-! ### The envelope clock of a playing channel (R225, R228) -/

/-- What the envelope step makes of the volume and the countdown. -/
theorem withEnvelopeStep_spec (clocked : Prop) [Decidable clocked] (x : Channel) :
    if clocked ∧ x.envPace ≠ 0 then
      if 2 ≤ x.envCnt.toNat then
        (withEnvelopeStep clocked x).envCnt.toNat = x.envCnt.toNat - 1 ∧ (withEnvelopeStep clocked x).envVol = x.envVol
      else (withEnvelopeStep clocked x).envCnt = x.envPace ∧
        (withEnvelopeStep clocked x).envVol.toNat =
          if x.envDir = true then min (x.envVol.toNat + 1) 15 else x.envVol.toNat - 1
    else (withEnvelopeStep clocked x).envCnt = x.envCnt ∧ (withEnvelopeStep clocked x).envVol = x.envVol := by
  have hcnt := x.envCnt.isLt
  have hvol := x.envVol.isLt
  unfold withEnvelopeStep
  by_cases hclk : clocked ∧ x.envPace ≠ 0
  · simp only [if_pos hclk]
    by_cases htwo : 2 ≤ x.envCnt.toNat
    · simp only [if_pos htwo, and_true]
      exact Nat.mod_eq_of_lt (by omega)
    · simp only [if_neg htwo, true_and]
      exact Nat.mod_eq_of_lt (by split <;> omega)
  · simp only [if_neg hclk, and_self]

/-- Behind the gate the envelope moves by its clock only, which neither an expiry nor a sweep meets (R204). -/
theorem Channel.playAs_envelope {c : Ch} (hc : c ≠ .c3) (t : DutyTable) {sw env : Bool} {x : Channel}
    (hclk : env = true → x.on = true ∧ sw = false) :
    (x.playAs c t sw env).envCnt = (x.envelopeClock env).envCnt ∧
      (x.playAs c t sw env).envVol = (x.envelopeClock env).envVol := by
  have hpulse (sw : Bool) (hclk : env = true → x.on = true ∧ sw = false) :
      (x.pulsePlay t sw env).1.envCnt = (x.envelopeClock env).envCnt ∧
        (x.pulsePlay t sw env).1.envVol = (x.envelopeClock env).envVol := by
    cases env with
    | true =>
      obtain ⟨hon, rfl⟩ := hclk rfl
      rw [Channel.pulsePlay_fst_of_noSweep, if_pos hon, Channel.pulseCount_frame]
      exact ⟨rfl, rfl⟩
    | false =>
      obtain ⟨-, e⟩ | ⟨-, -, -, e⟩ | ⟨-, -, e⟩ := x.pulsePlay_cases t sw false <;> rw [e]
      · exact ⟨rfl, rfl⟩
      · rw [x.sweep_frame]
        exact ⟨rfl, rfl⟩
      · rw [Channel.pulseVoice, Channel.pulseCount_frame]
        split
        · rw [x.sweep_frame]
          exact ⟨rfl, rfl⟩
        · exact ⟨rfl, rfl⟩
  cases c with
  | c1 => exact hpulse sw hclk
  | c2 => exact hpulse false fun h => ⟨(hclk h).1, rfl⟩
  | c3 => exact absurd rfl hc
  | c4 =>
    rw [Channel.playAs, Channel.noisePlay_fst, Channel.noiseCount_frame]
    split
    · exact ⟨rfl, rfl⟩
    · next hoff =>
      cases env with
      | true => exact absurd (hclk rfl).1 hoff
      | false => exact ⟨rfl, rfl⟩

theorem dacOn_of_volumeDacOn {s : State} {c : Ch} (hc : c ≠ .c3) (h : volumeDacOn (s.ch c)) : dacOn s c := .inr ⟨hc, h⟩

/-- Settles O36: step 7 is odd and neither 2 nor 6, so at it the channel reaches its envelope, and elsewhere the envelope holds. -/
theorem envelopeClock : Obligations.EnvelopeClock := by
  intro s dsm div hinit hedges
  refine ⟨_, exec_advance_of_init hinit dsm div, fun c hc hdac hon hno => ?_⟩
  have hdac' := dacOn_of_volumeDacOn hc hdac
  obtain ⟨hframe, -⟩ := State.advance_ch_frame dsm div hdac'
  obtain ⟨hpace, hdir⟩ := hframe.latched (.inr hno)
  obtain ⟨sw, env, e, hconds⟩ := State.advance_ch_of_dacOn dsm div hdac'
  obtain ⟨hsw, henv⟩ := hconds hedges
  have hreach : env = true → (s.gateCh dsm div c).on = true ∧ sw = false := fun h => by
    obtain ⟨-, hseven⟩ := henv.1 h
    refine ⟨(State.gateCh_on_iff hedges).2 ⟨.inl hon, fun hexp => ?_⟩, Bool.eq_false_iff.2 fun h => ?_⟩
    · obtain ⟨⟨-, heven, -⟩, -⟩ := hexp
      omega
    · obtain ⟨-, htwo⟩ := (hsw.1 h).resolve_right hno
      omega
  obtain ⟨hcnt, hvol⟩ := Channel.playAs_envelope hc s.params.duty hreach
  rw [Channel.envelopeClock_eq henv, ← e] at hcnt hvol
  have hspec := withEnvelopeStep_spec (envelopeClocked s dsm div) (s.gateCh dsm div c)
  rw [← hcnt, ← hvol, State.gateCh_of_noTrigger hedges hno] at hspec
  have hassoc (p : Prop) : envelopeClocked s dsm div ∧ p ↔ edgeSeen s dsm div ∧ nextStepNo s = 7 ∧ p := and_assoc
  simp only [hassoc] at hspec
  exact ⟨hpace, hdir, hspec⟩

/-! ### The period counter and the duty index (R226) -/

theorem Channel.pulseCount_cursor (x : Channel) :
    if x.pcnt = 0x7FF then x.pulseCount.pcnt.toNat = periodNo x ∧ x.pulseCount.idx.toNat = (x.idx.toNat + 1) % 8
    else x.pulseCount.pcnt.toNat = x.pcnt.toNat + 1 ∧ x.pulseCount.idx = x.idx := by
  rw [x.pulseCount_eq]
  split
  · have hmod : (x.idx.toNat + 1) % 8 < 32 := by omega
    exact ⟨Nat.mod_eq_of_lt (periodNo_lt x), Nat.mod_eq_of_lt hmod⟩
  · next h =>
    have hlt := x.pcnt.isLt
    have hne : x.pcnt.toNat ≠ 0x7FF := fun h' => h (BitVec.eq_of_toNat_eq h')
    exact ⟨Nat.mod_eq_of_lt (by omega), rfl⟩

theorem Channel.pulseVoice_cursor (t : DutyTable) (env : Bool) (x : Channel) :
    if x.pcnt = 0x7FF then
      (x.pulseVoice t env).1.pcnt.toNat = periodNo (x.pulseVoice t env).1 ∧
        (x.pulseVoice t env).1.idx.toNat = (x.idx.toNat + 1) % 8
    else (x.pulseVoice t env).1.pcnt.toNat = x.pcnt.toNat + 1 ∧ (x.pulseVoice t env).1.idx = x.idx := by
  have h := (x.envelopeClock env).pulseCount_cursor
  have hpcnt : (x.envelopeClock env).pcnt = x.pcnt := by rw [x.envelopeClock_frame]
  have hidx : (x.envelopeClock env).idx = x.idx := by rw [x.envelopeClock_frame]
  have hperiod : periodNo (x.envelopeClock env) = periodNo x := by rw [x.envelopeClock_frame]; rfl
  rwa [hpcnt, hidx, hperiod, ← (x.pulseVoice_sameSweep t env).periodNo_eq] at h

/-- The cursor counts if the channel is on after the play, with the period it then has, and holds if it is off. -/
theorem Channel.pulsePlay_cursor (t : DutyTable) (sw env : Bool) (x : Channel) :
    ((x.pulsePlay t sw env).1.on = true →
      if x.pcnt = 0x7FF then
        (x.pulsePlay t sw env).1.pcnt.toNat = periodNo (x.pulsePlay t sw env).1 ∧
          (x.pulsePlay t sw env).1.idx.toNat = (x.idx.toNat + 1) % 8
      else (x.pulsePlay t sw env).1.pcnt.toNat = x.pcnt.toNat + 1 ∧ (x.pulsePlay t sw env).1.idx = x.idx) ∧
    ((x.pulsePlay t sw env).1.on = false →
      (x.pulsePlay t sw env).1.pcnt = x.pcnt ∧ (x.pulsePlay t sw env).1.idx = x.idx) := by
  obtain ⟨hoff, e⟩ | ⟨-, -, hoff, e⟩ | ⟨-, hon, e⟩ := x.pulsePlay_cases t sw env <;> rw [e]
  · exact ⟨fun hon => (by cases hoff.symm.trans hon), fun _ => ⟨rfl, rfl⟩⟩
  · refine ⟨fun hon => (by cases hoff.symm.trans hon), fun _ => ?_⟩
    rw [x.sweep_frame]
    exact ⟨rfl, rfl⟩
  · refine ⟨fun _ => ?_, fun hoff => ?_⟩
    · have hcursor : (if sw = true then x.sweep else x).pcnt = x.pcnt ∧ (if sw = true then x.sweep else x).idx = x.idx := by
        rw [x.sweep_frame]
        split <;> exact ⟨rfl, rfl⟩
      have h := Channel.pulseVoice_cursor t env (if sw = true then x.sweep else x)
      rwa [hcursor.1, hcursor.2] at h
    · rw [Channel.pulseVoice_on] at hoff
      cases hon.symm.trans hoff

/-- The play of channel 1 or 2 is the pulse play, channel 2's without a sweep. -/
theorem Channel.playAs_pulse {c : Ch} (hc : c = .c1 ∨ c = .c2) (t : DutyTable) (sw env : Bool) (x : Channel) :
    ∃ sw', (sw' = true → sw = true) ∧ x.playAs c t sw env = (x.pulsePlay t sw' env).1 := by
  obtain rfl | rfl := hc
  · exact ⟨sw, id, rfl⟩
  · exact ⟨false, nofun, rfl⟩

/-- Settles O34: the play of the record at the on gate, whose cursor is the channel's, and which with no FS edge is the channel itself. -/
theorem pulsePeriodCounter : Obligations.PulsePeriodCounter := by
  intro s dsm div hinit hedges
  refine ⟨_, exec_advance_of_init hinit dsm div, fun c hc hdac hon hno => ?_⟩
  have hdac' := dacOn_of_volumeDacOn (by rintro rfl; simp at hc) hdac
  obtain ⟨sw, env, e, hconds⟩ := State.advance_ch_of_dacOn dsm div hdac'
  obtain ⟨hsw, henv⟩ := hconds hedges
  obtain ⟨sw', hsw', eplay⟩ := Channel.playAs_pulse hc s.params.duty sw env (s.gateCh dsm div c)
  have hgate := State.gateCh_of_noTrigger (dsm := dsm) (div := div) hedges hno
  refine ⟨fun hstill => ?_, ?_⟩
  · have hself : s.gateCh dsm div c = s.ch c := by
      rw [hgate, lenAfter, if_neg (mt And.left hstill), decide_eq_false (mt (And.left ∘ And.left) hstill), Bool.not_false,
        Bool.and_true]
    have hsw0 : sw' = false := Bool.eq_false_iff.2 fun h =>
      hstill ((hsw.1 (hsw' h)).resolve_right hno).1
    have henv0 : env = false := Bool.eq_false_iff.2 fun h => hstill (henv.1 h).1
    rw [e, eplay, hself, hsw0, henv0, Channel.pulsePlay_fst_of_noSweep, if_pos hon]
    exact Channel.pulseCount_eq _
  · have h := Channel.pulsePlay_cursor s.params.duty sw' env (s.gateCh dsm div c)
    rw [← eplay, ← e] at h
    rw [hgate] at h
    exact h

/-! ### The trigger tick (R221, R313) -/

theorem Channel.clearTrig_eq (x : Channel) : x.clearTrig = { x with reg4 := BitVec.ofNat 8 (x.reg4.toNat % 128) } := by
  have h : x.reg4 &&& 0x7F = BitVec.ofNat 8 (x.reg4.toNat % 128) := by
    rw [← x.clearTrig_reg4_toNat, BitVec.ofNat_toNat, BitVec.setWidth_eq]
    rfl
  rw [Channel.clearTrig, h]

/-- The trigger of channel 2; channel 1's loads the sweep fields too. -/
theorem Channel.pulseTrigger_eq (x : Channel) :
    x.pulseTrigger false = withLatchedEnvelope { x with
      reg4 := BitVec.ofNat 8 (x.reg4.toNat % 128), on := true, pcnt := BitVec.ofNat 11 (periodNo x), idx := 0 } ∧
    x.pulseTrigger true =
      { x.pulseTrigger false with swCnt := 0, shadow := BitVec.ofNat 11 (periodNo x) } := by
  have hperiod : x.clearTrig.period = BitVec.ofNat 11 (periodNo x) := by rw [Channel.period_eq, x.clearTrig_periodNo]
  constructor
  · rw [← Channel.latchEnvelope_eq, ← hperiod, Channel.pulseTrigger, x.clearTrig_eq]
    rfl
  · rw [← hperiod]
    rfl

section
variable {s : State} {dsm : Bool} {div : Byte}

theorem State.gateCh_c2_of_trigger (hedges : s.EdgesClear) (htrig : pendingTrigger s.ch2) :
    s.gateCh dsm div .c2 = triggeredPulse s dsm div s.ch2 := by
  rw [State.gateCh_of_trigger (c := .c2) hedges htrig, Channel.triggerAs, s.ch_c2, s.ch2.pulseTrigger_eq.1]
  simp only [triggeredPulse, decide_not]
  rfl

theorem State.gateCh_c1_of_trigger (hedges : s.EdgesClear) (htrig : pendingTrigger s.ch1) :
    s.gateCh dsm div .c1 =
      { triggeredPulse s dsm div s.ch1 with swCnt := 0, shadow := BitVec.ofNat 11 (periodNo s.ch1) } := by
  rw [State.gateCh_of_trigger (c := .c1) hedges htrig, Channel.triggerAs, s.ch_c1, s.ch1.pulseTrigger_eq.2,
    s.ch1.pulseTrigger_eq.1]
  simp only [triggeredPulse, decide_not]
  rfl

end

/-- The first count of a cursor that a trigger reset, with the period the sweep left. -/
theorem Channel.pulseCount_of_start {p : Nat} (hp : p < 0x800) {x : Channel} (hpcnt : x.pcnt = BitVec.ofNat 11 p) (hidx : x.idx = 0) :
    x.pulseCount = withCursor 8 (countOnce (periodNo x) (p, 0)) x := by
  have hself : withCursor 8 (p, 0) x = x := by
    rw [withCursor, ← hpcnt]
    show { x with idx := 0 } = x
    rw [← hidx]
  rw [← Channel.pulseCount_withCursor hp, hself]

theorem withEnvelopeStep_periodNo (clocked : Prop) [Decidable clocked] (x : Channel) :
    periodNo (withEnvelopeStep clocked x) = periodNo x := by
  rw [withEnvelopeStep_frame]
  rfl

theorem triggeredPulse_periodNo (s : State) (dsm : Bool) (div : Byte) (x : Channel) :
    periodNo (triggeredPulse s dsm div x) = periodNo x := by
  show BitVec.toNat (BitVec.ofNat 8 (x.reg4.toNat % 128)) % 8 * 256 + x.reg3.toNat = x.reg4.toNat % 8 * 256 + x.reg3.toNat
  rw [BitVec.toNat_ofNat]
  omega

/-- The envelope clock and the first count of a cursor that a trigger reset. -/
theorem Channel.voice_of_start {clocked : Prop} [Decidable clocked] {env : Bool} (henv : env = true ↔ clocked) {p q : Nat}
    (hp : p < 0x800) {x : Channel} (hpcnt : x.pcnt = BitVec.ofNat 11 p) (hidx : x.idx = 0) (hperiod : periodNo x = q) :
    (x.envelopeClock env).pulseCount = withCursor 8 (countOnce q (p, 0)) (withEnvelopeStep clocked x) := by
  have hframe := withEnvelopeStep_frame clocked x
  rw [Channel.envelopeClock_eq henv, Channel.pulseCount_of_start hp (by rw [hframe]; exact hpcnt) (by rw [hframe]; exact hidx),
    withEnvelopeStep_periodNo, hperiod]

/-- The write-back of a period as numbers (R227). -/
theorem Channel.setPeriod_eq {q : Nat} (hq : q < 0x800) (x : Channel) :
    x.setPeriod (BitVec.ofNat 11 q) =
      { x with reg3 := BitVec.ofNat 8 (q % 256), reg4 := BitVec.ofNat 8 (x.reg4.toNat / 8 * 8 + q / 256) } := by
  have hval : (BitVec.ofNat 11 q).toNat = q := Nat.mod_eq_of_lt hq
  have hreg3 : (x.setPeriod (BitVec.ofNat 11 q)).reg3 = BitVec.ofNat 8 (q % 256) := by
    apply BitVec.eq_of_toNat_eq
    rw [Channel.setPeriod, toNat_extractLsb'_eq_div, hval, BitVec.toNat_ofNat]
    omega
  have hreg4 : (x.setPeriod (BitVec.ofNat 11 q)).reg4 = BitVec.ofNat 8 (x.reg4.toNat / 8 * 8 + q / 256) := by
    have h := x.setPeriod_reg4_toNat (BitVec.ofNat 11 q)
    rw [hval] at h
    rw [← h, BitVec.ofNat_toNat, BitVec.setWidth_eq]
  rw [← hreg3, ← hreg4]
  rfl

/-- The sweep of a channel 1 whose trigger has just cleared the countdown (R224, R227). -/
theorem Channel.sweep_of_start {x : Channel} (hpace : sweepPaceNo x ≠ 0) (hcnt : x.swCnt = 0) {q : Nat}
    (hq : sweepTargetNo x x.shadow.toNat = q) :
    x.sweep =
      if 0x7FF ≤ q then { x with swCnt := BitVec.ofNat 3 (sweepPaceNo x), on := false }
      else { x with
        swCnt := BitVec.ofNat 3 (sweepPaceNo x)
        shadow := BitVec.ofNat 11 q
        reg3 := BitVec.ofNat 8 (q % 256)
        reg4 := BitVec.ofNat 8 (x.reg4.toNat / 8 * 8 + q / 256) } := by
  have hsweep : x.sweep = x.sweepCompute := by
    obtain ⟨hzero, -⟩ | ⟨-, -, e⟩ | ⟨-, htwo, -⟩ := x.sweep_cases
    · exact absurd hzero (x.sweepPace_ne_zero_iff.2 hpace)
    · exact e
    · rw [hcnt] at htwo
      exact absurd htwo (by decide)
  have hpaceNo : x.sweepPace = BitVec.ofNat 3 (sweepPaceNo x) := by
    rw [← x.sweepPace_toNat, BitVec.ofNat_toNat, BitVec.setWidth_eq]
  have htarget := x.sweepTarget_eq
  rw [hsweep, ← hpaceNo]
  obtain ⟨hsat, e⟩ | ⟨hlive, e⟩ := x.sweepCompute_cases <;> rw [e]
  · rw [if_pos (by omega)]
  · obtain rfl : x.sweepTarget = q := by omega
    rw [if_neg (by omega), Channel.setPeriod_eq (by omega)]

theorem Channel.pulsePlay_fst_of_sweep (t : DutyTable) (env : Bool) {x : Channel} (hon : x.on = true) :
    (x.pulsePlay t true env).1 = if x.sweep.on then (x.sweep.envelopeClock env).pulseCount else x.sweep := by
  cases h : x.sweep.on <;> simp [Channel.pulsePlay, Channel.pulseVoice, hon, h]

/-- Channel 1's play of a record that a trigger reset, with the sweep evaluated before the voice (R224 to R226). -/
theorem Channel.playAs_c1_of_start (t : DutyTable) {clocked : Prop} [Decidable clocked] {env : Bool} (henv : env = true ↔ clocked)
    {x : Channel} {p q : Nat} (hon : x.on = true) (hpcnt : x.pcnt = BitVec.ofNat 11 p) (hidx : x.idx = 0) (hcnt : x.swCnt = 0)
    (hperiod : periodNo x = p) (hq : sweepTargetNo x x.shadow.toNat = q) :
    x.playAs .c1 t true env =
      if sweepPaceNo x = 0 then withCursor 8 (countOnce p (p, 0)) (withEnvelopeStep clocked x)
      else if 0x7FF ≤ q then { x with swCnt := BitVec.ofNat 3 (sweepPaceNo x), on := false }
      else withCursor 8 (countOnce q (p, 0)) (withEnvelopeStep clocked { x with
        swCnt := BitVec.ofNat 3 (sweepPaceNo x)
        shadow := BitVec.ofNat 11 q
        reg3 := BitVec.ofNat 8 (q % 256)
        reg4 := BitVec.ofNat 8 (x.reg4.toNat / 8 * 8 + q / 256) }) := by
  have hp : p < 0x800 := hperiod ▸ periodNo_lt x
  rw [Channel.playAs, Channel.pulsePlay_fst_of_sweep t env hon]
  by_cases hpace : sweepPaceNo x = 0
  · rw [if_pos hpace, Channel.sweep_of_no_pace hpace, if_pos hon, Channel.voice_of_start henv hp hpcnt hidx hperiod]
  · rw [if_neg hpace, Channel.sweep_of_start hpace hcnt hq]
    by_cases hsat : 0x7FF ≤ q
    · rw [if_pos hsat, if_pos hsat, if_neg Bool.false_ne_true]
    · have hswept := (x.setPeriod_periodNo (BitVec.ofNat 11 q)).trans (Nat.mod_eq_of_lt (by omega))
      rw [Channel.setPeriod_eq (by omega)] at hswept
      rw [if_neg hsat, if_neg hsat, if_pos hon]
      exact Channel.voice_of_start henv hp hpcnt hidx hswept

section
variable {s : State} {dsm : Bool} {div : Byte} (hedges : s.EdgesClear)
include hedges

theorem State.advance_ch2_of_trigger (hdac : volumeDacOn s.ch2) (htrig : pendingTrigger s.ch2) :
    (s.advance dsm div).ch2 =
      if lengthExpires s dsm div s.ch2 then triggeredPulse s dsm div s.ch2
      else withCursor 8 (countOnce (periodNo s.ch2) (periodNo s.ch2, 0))
        (withEnvelopeStep (envelopeClocked s dsm div) (triggeredPulse s dsm div s.ch2)) := by
  obtain ⟨sw, env, e, hconds⟩ := State.advance_ch_of_dacOn (c := .c2) dsm div (dacOn_of_volumeDacOn nofun hdac)
  obtain ⟨-, henv⟩ := hconds hedges
  refine e.trans ?_
  rw [State.gateCh_c2_of_trigger hedges htrig]
  by_cases hexp : lengthExpires s dsm div s.ch2
  · rw [if_pos hexp, Channel.playAs_of_off _ _ _ _ (decide_eq_false (not_not_intro hexp))]
  · have hon : (triggeredPulse s dsm div s.ch2).on = true := decide_eq_true hexp
    rw [if_neg hexp, Channel.playAs, Channel.pulsePlay_fst_of_noSweep, if_pos hon,
      Channel.voice_of_start henv (periodNo_lt s.ch2) rfl rfl (triggeredPulse_periodNo ..)]

end

/-- Settles O33: the play of the record that the trigger and the length clock left, channel 1's with the sweep evaluated. -/
theorem pulseTriggerTick : Obligations.PulseTriggerTick := by
  intro s dsm div hinit hedges
  refine ⟨_, exec_advance_of_init hinit dsm div, State.advance_ch2_of_trigger hedges, fun hdac htrig => ?_⟩
  dsimp only
  obtain ⟨sw, env, e, hconds⟩ := State.advance_ch_of_dacOn (c := .c1) dsm div (dacOn_of_volumeDacOn nofun hdac)
  obtain ⟨hsw, henv⟩ := hconds hedges
  obtain rfl : sw = true := hsw.2 (.inr htrig)
  refine e.trans ?_
  rw [State.gateCh_c1_of_trigger hedges htrig]
  by_cases hexp : lengthExpires s dsm div s.ch1
  · rw [if_pos hexp, Channel.playAs_of_off _ _ _ _ (decide_eq_false (not_not_intro hexp))]
  · have htarget : sweepTargetNo s.ch1 (BitVec.ofNat 11 (periodNo s.ch1)).toNat = sweepTargetNo s.ch1 (periodNo s.ch1) :=
      congrArg _ (Nat.mod_eq_of_lt (periodNo_lt s.ch1))
    have hreg4 : (BitVec.ofNat 8 (s.ch1.reg4.toNat % 128)).toNat = s.ch1.reg4.toNat % 128 := Nat.mod_eq_of_lt (by omega)
    rw [if_neg hexp, ← hreg4]
    exact Channel.playAs_c1_of_start s.params.duty henv (decide_eq_true hexp) rfl rfl rfl
      (triggeredPulse_periodNo s dsm div s.ch1) htarget

end Sys2Proof.Machine
end

section
/-! The wave channel (spec/44_wave_channel.md R250 to R253) and the noise channel (spec/45_noise_channel.md R270 to R275) in an ADVANCE:
the whole record that the gate leaves, and what the play makes of it. -/

namespace Sys2Proof.Machine

open Sys2Proof.Claims

/-! ### The wave channel -/

theorem waveStart_fst_lt (x : Channel) : (waveStart x).1 < 0x800 := by
  unfold waveStart
  split
  · exact periodNo_lt x
  · exact x.pcnt.isLt

/-- A trigger moves the wave cursor to its start and clears the trigger bit; without one both stay (R251). -/
theorem Channel.afterTrigger_wave (x : Channel) :
    x.afterTrigger Channel.waveTrigger = withCursor 32 (waveStart x) { x with
      reg4 := BitVec.ofNat 8 (x.reg4.toNat % 128), on := x.on || x.trig, edge := false } := by
  rw [Channel.afterTrigger]
  by_cases htrig : pendingTrigger x
  · have hperiod : x.takeEdge.clearTrig.period = BitVec.ofNat 11 (periodNo x) := by
      rw [Channel.period_eq, Channel.clearTrig_periodNo]
      rfl
    have hstart : waveStart x = (periodNo x, 0) := if_pos htrig
    rw [x.trig_iff.2 htrig, Bool.or_true, if_pos rfl, hstart, withCursor, ← hperiod, Channel.waveTrigger, Channel.clearTrig_eq]
    rfl
  · have hstart : waveStart x = (x.pcnt.toNat, x.idx.toNat) := if_neg htrig
    have hreg4 : BitVec.ofNat 8 (x.reg4.toNat % 128) = x.reg4 := by
      rw [Nat.mod_eq_of_lt (Nat.lt_of_not_le htrig), BitVec.ofNat_toNat, BitVec.setWidth_eq]
    rw [Bool.eq_false_iff.2 (mt x.trig_iff.1 htrig), Bool.or_false, if_neg Bool.false_ne_true, hstart, hreg4]
    exact (withCursor_self x.takeEdge).symm

/-- Channel 3 at the on gate: the cursor at its start, the on flag and the length counter as the gate has them. -/
theorem State.gateCh_c3 (s : State) (dsm : Bool) (div : Byte) :
    s.gateCh dsm div .c3 = withCursor 32 (waveStart s.ch3) { s.ch3 with
      reg4 := BitVec.ofNat 8 (s.ch3.reg4.toNat % 128)
      on := (s.gateCh dsm div .c3).on
      len := (s.gateCh dsm div .c3).len
      edge := false } := by
  have hstart : waveStart ((s.fsClock dsm div).ch .c3) = waveStart s.ch3 := by
    rw [s.fsClock_ch]
    rfl
  refine (s.gateCh_clock dsm div .c3).trans ?_
  rw [Channel.triggerAs, Channel.afterTrigger_wave, hstart, s.fsClock_ch]
  rfl

section
variable (s : State) (dsm : Bool) (div : Byte)

theorem State.gateCh_c3_periodNo : periodNo (s.gateCh dsm div .c3) = periodNo s.ch3 := by
  obtain ⟨hreg3, hreg4⟩ := (s.gateCh_frame dsm div .c3).period (.inl nofun)
  rw [periodNo, hreg3, hreg4]
  rfl

/-- The two counts of channel 3 from the start of its cursor (R252, R253). -/
theorem State.gateCh_c3_waveCount :
    (s.gateCh dsm div .c3).waveCount =
      withCursor 32 (countOnce (periodNo s.ch3) (waveStart s.ch3)) (s.gateCh dsm div .c3) ∧
    (s.gateCh dsm div .c3).waveCount.waveCount =
      withCursor 32 (countOnce (periodNo s.ch3) (countOnce (periodNo s.ch3) (waveStart s.ch3))) (s.gateCh dsm div .c3) := by
  have hstart := waveStart_fst_lt s.ch3
  have hself : withCursor 32 (waveStart s.ch3) (s.gateCh dsm div .c3) = s.gateCh dsm div .c3 := by
    rw [s.gateCh_c3]
    rfl
  have hfirst := Channel.waveCount_withCursor hstart (s.gateCh dsm div .c3)
  have hsecond := Channel.waveCount_withCursor (countOnce_fst_lt (periodNo_lt s.ch3) hstart) (s.gateCh dsm div .c3)
  rw [hself, State.gateCh_c3_periodNo] at hfirst
  rw [State.gateCh_c3_periodNo, ← hfirst] at hsecond
  exact ⟨hfirst, hsecond⟩

end

/-- Settles O37: both counts start from the cursor that the gate left. -/
theorem waveTriggerAndCursor : Obligations.WaveTriggerAndCursor := by
  intro s dsm div hinit hedges hdac
  refine ⟨_, exec_advance_of_init hinit dsm div, ?_⟩
  dsimp only
  obtain ⟨sw, env, e, -⟩ := State.advance_ch_of_dacOn (c := .c3) dsm div (.inl ⟨rfl, hdac⟩)
  have hon : (s.gateCh dsm div .c3).on =
      decide ((pendingTrigger s.ch3 ∨ s.ch3.on = true) ∧ ¬ lengthExpires s dsm div s.ch3) := by
    rw [Bool.eq_iff_iff, decide_eq_true_iff, or_comm]
    exact State.gateCh_on_iff hedges
  have hgate := s.gateCh_c3 dsm div
  rw [hon, State.gateCh_len hedges, ← hedges .c3] at hgate
  refine e.trans ?_
  rw [Channel.playAs, (s.gateCh_c3_waveCount dsm div).2]
  by_cases hplays : (pendingTrigger s.ch3 ∨ s.ch3.on = true) ∧ ¬ lengthExpires s dsm div s.ch3
  · rw [if_pos hplays, if_pos (hon.trans (decide_eq_true hplays)), hgate]
    rfl
  · rw [if_neg hplays, if_neg (Bool.eq_false_iff.1 (hon.trans (decide_eq_false hplays))), hgate]
    rfl

/-! ### The noise channel -/

theorem noisePeriodNo_pos (x : Channel) : 1 ≤ noisePeriodNo x := x.noisePeriod_eq ▸ x.noisePeriod_pos

/-- One count of the noise countdown behind the envelope step (R273, R275). -/
theorem Channel.noiseCount_withEnvelopeStep (clocked : Prop) [Decidable clocked] (x : Channel) :
    (withEnvelopeStep clocked x).noiseCount =
      if x.ncnt = 0 then
        { withEnvelopeStep clocked x with
          lfsr := BitVec.ofNat 15 (lfsrNext (x.reg3.toNat / 8 % 2 = 1) x.lfsr.toNat)
          ncnt := 2 * noisePeriodNo x }
      else { withEnvelopeStep clocked x with ncnt := x.ncnt - 1 } := by
  rw [Channel.noiseCount_eq, withEnvelopeStep_frame]
  rfl

theorem Channel.noiseTrigger_eq (x : Channel) :
    x.noiseTrigger = withLatchedEnvelope { x with
      reg4 := BitVec.ofNat 8 (x.reg4.toNat % 128), on := true, lfsr := 0x7FFF, ncnt := 2 * noisePeriodNo x } := by
  rw [← Channel.latchEnvelope_eq, Channel.noiseTrigger, x.noisePeriod_eq, x.clearTrig_eq]
  rfl

/-- Channel 4 with its DAC on holds what the gate left if that is off, and else takes the envelope clock and counts. -/
theorem State.advance_ch4_of_dacOn {s : State} (hedges : s.EdgesClear) (dsm : Bool) (div : Byte) (hdac : volumeDacOn s.ch4) :
    (s.advance dsm div).ch4 = if (s.gateCh dsm div .c4).on then
      (withEnvelopeStep (envelopeClocked s dsm div) (s.gateCh dsm div .c4)).noiseCount else s.gateCh dsm div .c4 := by
  obtain ⟨sw, env, e, hconds⟩ := State.advance_ch_of_dacOn (c := .c4) dsm div (dacOn_of_volumeDacOn nofun hdac)
  obtain ⟨-, henv⟩ := hconds hedges
  rw [← Channel.envelopeClock_eq henv, ← Channel.noisePlay_fst]
  exact e

/-- Settles O39: the play of the record that the trigger and the length clock left, whose countdown is above 0. -/
theorem noiseTriggerTick : Obligations.NoiseTriggerTick := by
  intro s dsm div hinit hedges hdac htrig
  refine ⟨_, exec_advance_of_init hinit dsm div, ?_⟩
  dsimp only
  have hpos := noisePeriodNo_pos s.ch4
  have hgate := State.gateCh_of_trigger (dsm := dsm) (div := div) (c := .c4) hedges htrig
  rw [Channel.triggerAs, s.ch_c4, Channel.noiseTrigger_eq, ← decide_not] at hgate
  rw [State.advance_ch4_of_dacOn hedges dsm div hdac, hgate]
  by_cases hexp : lengthExpires s dsm div s.ch4
  · rw [if_pos hexp, if_neg (Bool.eq_false_iff.1 (decide_eq_false (not_not_intro hexp)))]
    rfl
  · rw [if_neg hexp, if_pos (decide_eq_true hexp), Channel.noiseCount_withEnvelopeStep]
    exact if_neg (by show 2 * noisePeriodNo s.ch4 ≠ 0; omega)

/-- Settles O40: the play of the record that the length clock left. -/
theorem noiseCountdownAndLfsr : Obligations.NoiseCountdownAndLfsr := by
  intro s dsm div hinit hedges hdac hon hno
  refine ⟨_, exec_advance_of_init hinit dsm div, ?_⟩
  dsimp only
  have hgate := State.gateCh_of_noTrigger (dsm := dsm) (div := div) (c := .c4) hedges hno
  rw [State.advance_ch4_of_dacOn hedges dsm div hdac, hgate]
  by_cases hexp : lengthExpires s dsm div s.ch4
  · rw [if_pos hexp, decide_eq_true (p := lengthExpires s dsm div (s.ch .c4)) hexp, Bool.not_true, Bool.and_false,
      if_neg Bool.false_ne_true]
    rfl
  · rw [if_neg hexp, decide_eq_false (p := lengthExpires s dsm div (s.ch .c4)) hexp, Bool.not_false, Bool.and_true]
    exact (if_pos hon).trans (Channel.noiseCount_withEnvelopeStep _ _)

end Sys2Proof.Machine
end

section
/-! The outputs and the mix of an ADVANCE (spec/43_pulse_channels.md R230, spec/44_wave_channel.md R252, R254,
spec/45_noise_channel.md R276, spec/46_mixer_resampler.md R290 to R295, R299), and the length counters over all operations (R233). -/

namespace Sys2Proof.Machine

open Sys2Proof.Claims

/-! ### The outputs on numbers (R230, R254, R276) -/

/-- A bit times a level. -/
theorem ite_getLsbD_eq_mul {w : Nat} (b : BitVec w) (n level : Nat) :
    (if b.getLsbD n = true then level else 0) = b.toNat / 2 ^ n % 2 * level := by
  by_cases h : b.getLsbD n = true
  · rw [if_pos h, (getLsbD_eq_true_iff b n).1 h, one_mul]
  · have hzero : b.toNat / 2 ^ n % 2 = 0 := by
      have := mt (getLsbD_eq_true_iff b n).2 h
      omega
    rw [if_neg h, hzero, zero_mul]

theorem Channel.pulseOutput_eq (p : Params) {x : Channel} (hon : x.on = true) : x.pulseOutput p.duty = pulseOut p x := by
  have hsel : x.reg1.toNat / 64 = x.dutySel.toNat := by
    have := x.reg1.isLt
    rw [Channel.dutySel, toNat_extractLsb'_eq_div]
    omega
  have hidx : (x.idx.extractLsb' 0 3).toNat = x.idx.toNat % 8 := by
    rw [toNat_extractLsb'_eq_div]
    simp
  have hfour (d : BitVec 2) : d = 0#2 ∨ d = 1#2 ∨ d = 2#2 ∨ d = 3#2 := by revert d; decide
  rw [pulseOut, if_pos hon, hsel, ← hidx, Channel.pulseOutput]
  obtain h | h | h | h := hfour x.dutySel <;> rw [h] <;> exact ite_getLsbD_eq_mul ..

theorem Channel.noiseOutput_eq {x : Channel} (hon : x.on = true) : x.noiseOutput = noiseOut x := by
  rw [noiseOut, if_pos hon, Channel.noiseOutput, ite_getLsbD_eq_mul]
  simp

theorem pulseOut_of_off (p : Params) {x : Channel} (hoff : x.on = false) : pulseOut p x = 0 :=
  if_neg (Bool.eq_false_iff.1 hoff)

theorem noiseOut_of_off {x : Channel} (hoff : x.on = false) : noiseOut x = 0 := if_neg (Bool.eq_false_iff.1 hoff)

/-- The output of channel 3 at the cursor of a record with NR32 as `s` has it. -/
theorem Channel.waveOutput_eq (s : State) {x : Channel} (hreg2 : x.reg2 = s.ch3.reg2) :
    x.waveOutput s.mem = waveOutAt s x.idx.toNat := by
  have hidx := x.idx.isLt
  have hlevel : x.waveLevel.toNat = s.ch3.reg2.toNat / 32 % 4 := by
    rw [← hreg2]
    exact toNat_extractLsb'_eq_div ..
  have hzero : x.waveLevel = 0 ↔ s.ch3.reg2.toNat / 32 % 4 = 0 := by
    rw [← hlevel]
    exact BitVec.toNat_eq ..
  have haddr : waveAddr (x.idx.extractLsb' 1 4) = 0xFF30 + x.idx.toNat / 2 := by
    rw [waveAddr, toNat_extractLsb'_eq_div]
    omega
  have hnibble : (waveNibble s.mem x.idx).toNat =
      if x.idx.toNat % 2 = 1 then (Memory.read s.mem (0xFF30 + x.idx.toNat / 2)).toNat / 16
      else (Memory.read s.mem (0xFF30 + x.idx.toNat / 2)).toNat % 16 := by
    have hodd : x.idx.getLsbD 0 = true ↔ x.idx.toNat % 2 = 1 := by simpa using getLsbD_eq_true_iff x.idx 0
    have hbyte := (Memory.read s.mem (0xFF30 + x.idx.toNat / 2)).isLt
    simp only [waveNibble, haddr, hodd, apply_ite BitVec.toNat, toNat_extractLsb'_eq_div]
    split <;> omega
  simp only [Channel.waveOutput, waveOutAt, hzero, hnibble, hlevel]

/-! ### The output of a tick, from the record it leaves -/

theorem Channel.pulsePlay_snd (p : Params) (sw env : Bool) (x : Channel) :
    (x.pulsePlay p.duty sw env).2 = pulseOut p (x.pulsePlay p.duty sw env).1 := by
  obtain ⟨hoff, e⟩ | ⟨-, -, hoff, e⟩ | ⟨-, hon, e⟩ := x.pulsePlay_cases p.duty sw env <;> rw [e]
  · exact (pulseOut_of_off p hoff).symm
  · exact (pulseOut_of_off p hoff).symm
  · exact Channel.pulseOutput_eq p ((Channel.pulseVoice_on p.duty env _).trans hon)

theorem Channel.tickPulse_snd (sweeps : Bool) (p : Params) (step : BitVec 3) (x : Channel) :
    (x.tickPulse sweeps p.duty step).2 = pulseOut p (x.tickPulse sweeps p.duty step).1 := by
  cases hd : x.volDac
  · rw [x.tickPulse_of_dacOff sweeps p.duty step hd]
    rfl
  · rw [x.tickPulse_atOnGate sweeps p.duty step hd]
    exact Channel.pulsePlay_snd ..

theorem Channel.tickNoise_snd (step : BitVec 3) (x : Channel) : (x.tickNoise step).2 = noiseOut (x.tickNoise step).1 := by
  cases hd : x.volDac
  · rw [x.tickNoise_of_dacOff step hd]
    rfl
  · rw [x.tickNoise_atOnGate step hd]
    generalize x.atOnGate Channel.noiseTrigger step = y
    have hon := y.noisePlay_on (x.edge && envClk step)
    cases hy : y.on
    · rw [noiseOut_of_off (hon.trans hy), Channel.noisePlay, hy]
      rfl
    · rw [← Channel.noiseOutput_eq (hon.trans hy), Channel.noisePlay, hy]
      rfl

/-- Channel 3's share of the mix of an ADVANCE of `s` that leaves it on or off (R252). -/
def State.waveShare (s : State) (on : Bool) : Nat :=
  let a := countOnce (periodNo s.ch3) (waveStart s.ch3)
  let b := countOnce (periodNo s.ch3) a
  if waveDacOn s.ch3 ∧ on = true then (waveOutAt s (a.2 % 32) + waveOutAt s (b.2 % 32)) / 2 else 0

/-- The sum of the outputs of an ADVANCE from `s` to `t` (R290, R291). -/
def State.outputSum (s t : State) : Nat :=
  pulseOut s.params t.ch1 + pulseOut s.params t.ch2 + s.waveShare t.ch3.on + noiseOut t.ch4

section
variable (s : State) (dsm : Bool) (div : Byte)

theorem State.advance_wave_snd :
    ((s.fsClock dsm div).ch3.tickWaveTwice s.mem (s.fsClock dsm div).fsEdgeStep).2 =
      s.waveShare (s.advance dsm div).ch3.on := by
  have hdacClock := s.fsClock_dacAs dsm div .c3
  by_cases hdac : waveDacOn s.ch3
  · obtain ⟨sw, env, e, -⟩ := State.advance_ch_of_dacOn (c := .c3) dsm div (.inl ⟨rfl, hdac⟩)
    have hon : (s.advance dsm div).ch3.on = (s.gateCh dsm div .c3).on :=
      (congrArg Channel.on e).trans (Channel.playAs_on .c3 _ _ _ _ (.inl nofun))
    obtain ⟨hfirst, hsecond⟩ := s.gateCh_c3_waveCount dsm div
    have hreg2 := (s.gateCh_frame dsm div .c3).reg2
    have hout (a : Nat × Nat) :
        (withCursor 32 a (s.gateCh dsm div .c3)).waveOutput s.mem = waveOutAt s (a.2 % 32) := by
      have hidx : (withCursor 32 a (s.gateCh dsm div .c3)).idx.toNat = a.2 % 32 :=
        Nat.mod_eq_of_lt (Nat.mod_lt _ (by decide))
      rw [← hidx]
      exact Channel.waveOutput_eq s hreg2
    refine (congrArg Prod.snd (Channel.tickWaveTwice_of_dacOn _ _ (hdacClock.2 (.inl ⟨rfl, hdac⟩)))).trans ?_
    change (if (s.gateCh dsm div .c3).on then (_, ((s.gateCh dsm div .c3).waveCount.waveOutput s.mem +
      (s.gateCh dsm div .c3).waveCount.waveCount.waveOutput s.mem) / 2) else (_, 0)).2 = _
    rw [hsecond, hfirst, hout, hout, State.waveShare, hon, apply_ite Prod.snd]
    simp only [hdac, true_and]
  · have hoff := Bool.eq_false_iff.2 (mt hdacClock.1 (by simpa [dacOn] using hdac))
    rw [State.waveShare, if_neg (mt And.left hdac)]
    exact congrArg Prod.snd (Channel.tickWaveTwice_of_dacOff _ _ hoff)

/-- The sum that an ADVANCE mixes, from the records the ticks left. -/
theorem State.advance_outputSum : (s.fsClock dsm div).tickChannels.2 = s.outputSum (s.advance dsm div) := by
  have h1 := (s.fsClock dsm div).ch1.tickPulse_snd true s.params (s.fsClock dsm div).fsEdgeStep
  have h2 := (s.fsClock dsm div).ch2.tickPulse_snd false s.params (s.fsClock dsm div).fsEdgeStep
  have h3 := s.advance_wave_snd dsm div
  have h4 := (s.fsClock dsm div).ch4.tickNoise_snd (s.fsClock dsm div).fsEdgeStep
  have hticks : (s.advance dsm div).ch1 = (s.fsClock dsm div).tickChannels.1.ch1 ∧
      (s.advance dsm div).ch2 = (s.fsClock dsm div).tickChannels.1.ch2 ∧
      (s.advance dsm div).ch4 = (s.fsClock dsm div).tickChannels.1.ch4 :=
    ⟨State.mix_ch1 _ _, State.mix_ch2 _ _, State.mix_ch4 _ _⟩
  obtain ⟨e1, e2, e4⟩ := hticks
  rw [State.outputSum, e1, e2, e4, ← h3]
  simp only [State.tickChannels, h1, h2, h4, s.fsClock_params, s.fsClock_mem]

end

/-! ### The mix (R292 to R295, R299) -/

theorem Resampler.mixStep_of_last (p : Params) (sum : Nat) {r : Resampler} (h : r.countdown = 1) :
    r.mixStep p sum = ((r.accumulate p sum).reload p, some ((r.acc + p.mixScale * sum) / (r.count + 1))) := by
  obtain ⟨hne, -⟩ | ⟨-, e⟩ := r.mixStep_cases p sum
  · omega
  · exact e

theorem Resampler.mixStep_of_two_le (p : Params) (sum : Nat) {r : Resampler} (h : 2 ≤ r.countdown) :
    r.mixStep p sum =
      ({ r with acc := r.acc + p.mixScale * sum, count := r.count + 1, countdown := r.countdown - 1 }, none) := by
  obtain ⟨-, e⟩ | ⟨heq, -⟩ := r.mixStep_cases p sum
  · exact e
  · omega

/-- What an ADVANCE mixes, answers and emits is the mix step of the sum of its outputs. -/
theorem State.advance_mixes (s : State) (dsm : Bool) (div : Byte) {m : Resampler × Option Nat}
    (h : s.rs.mixStep s.params (s.outputSum (s.advance dsm div)) = m) :
    (s.advance dsm div).rs = m.1 ∧ (s.advance dsm div).result = .advanced (m.2.map fun x => (x, x)) ∧
      (s.advance dsm div).samples = s.samples ++ (m.2.map fun x => (x, x)).toList := by
  rw [← State.advance_outputSum] at h
  have hframe := State.mix_frame (s.fsClock dsm div).tickChannels.2 (s.fsClock dsm div).tickChannels.1
  rw [State.tickChannels_fst_rs, State.tickChannels_fst_params, s.fsClock_rs, s.fsClock_params, h] at hframe
  refine ⟨congrArg State.rs hframe, congrArg State.result hframe, (congrArg State.samples hframe).trans ?_⟩
  show (s.fsClock dsm div).samples ++ _ = _
  rw [s.fsClock_samples]

/-- Settles O41: the mix step of the sum of the outputs, at the end of the countdown and before it. -/
theorem advanceMixesAndEmits : Obligations.AdvanceMixesAndEmits := by
  intro s dsm div hinit hpos
  refine ⟨_, exec_advance_of_init hinit dsm div, ?_⟩
  dsimp only
  split
  · next hlast =>
    obtain ⟨hrs, hresult, hsamples⟩ := s.advance_mixes dsm div (Resampler.mixStep_of_last s.params _ hlast)
    exact ⟨hresult, hsamples, hrs⟩
  · next hmore =>
    obtain ⟨hrs, hresult, hsamples⟩ := s.advance_mixes dsm div (Resampler.mixStep_of_two_le s.params _ (by omega))
    exact ⟨hresult, hsamples.trans (List.append_nil _), hrs⟩

theorem State.outputSum_of_off (s : State) {t : State} (h : ∀ c, (t.ch c).on = false) : s.outputSum t = 0 := by
  have h1 : pulseOut s.params t.ch1 = 0 := pulseOut_of_off _ (h .c1)
  have h2 : pulseOut s.params t.ch2 = 0 := pulseOut_of_off _ (h .c2)
  have h3 : s.waveShare t.ch3.on = 0 := if_neg fun hon => Bool.eq_false_iff.1 (h .c3) hon.2
  have h4 : noiseOut t.ch4 = 0 := noiseOut_of_off (h .c4)
  rw [State.outputSum, h1, h2, h3, h4]

/-- Settles O31: such a channel is off at the gate, so it holds what the gate left and its output is 0. -/
theorem offChannelHoldsItsState : Obligations.OffChannelHoldsItsState := by
  intro s dsm div hinit
  refine ⟨_, exec_advance_of_init hinit dsm div, fun c hoff hno => ⟨State.advance_ch_of_off hoff hno, fun hedges => ?_⟩,
    fun hall htwo => ?_⟩
  · split
    · next hdac => exact State.advance_ch_len hedges hdac
    · next hdac => rw [State.advance_ch_of_dacOff dsm div hdac]
  · have hoff (c : Ch) : ((s.advance dsm div).ch c).on = false := by
      obtain ⟨hoff, hno⟩ := hall c
      rw [State.advance_ch_of_off hoff hno]
      exact hoff
    obtain ⟨hrs, -⟩ := s.advance_mixes dsm div (Resampler.mixStep_of_two_le s.params _ htwo)
    rw [hrs, s.outputSum_of_off hoff]
    rfl

/-! ### The length counters over all operations (R233) -/

/-- An NRx4 write raises the counter only with the trigger bit, to the maximum (R160). -/
theorem lenAfterTrigWrite_rises {max len : Nat} {nextClocks prevEn newEn trig : Prop} [Decidable nextClocks] [Decidable prevEn]
    [Decidable newEn] [Decidable trig] (h : len < lenAfterTrigWrite max len nextClocks prevEn newEn trig) :
    trig ∧ lenAfterTrigWrite max len nextClocks prevEn newEn trig = max := by
  rw [lenAfterTrigWrite] at h ⊢
  by_cases htrig : trig
  · refine ⟨htrig, ?_⟩
    simp only [htrig, not_true, if_false, true_and] at h ⊢
    split_ifs at h ⊢ <;> omega
  · simp only [htrig, not_false_eq_true, if_true, false_and, if_false] at h
    split_ifs at h <;> omega

/-- A WRITE of the channel's registers raises the length counter only as R233 says. -/
theorem ChannelWrite.raises {s : State} {i : Instr} {c : Ch} {x : Channel} (h : ChannelWrite s i c x) (hlen : (s.ch c).len < x.len) :
    (∃ v, i = lengthWrite c v) ∨ ∃ v, i = triggerWrite c v ∧ 128 ≤ v.toNat ∧ x.len = maxLen c := by
  cases h with
  | store _ j v =>
    rw [Channel.setReg_frame] at hlen
    exact absurd hlen (lt_irrefl _)
  | length _ v => exact .inl ⟨v, rfl⟩
  | trigger _ v =>
    rw [Channel.trigWrite_len _ (maxLen_ge_two c)] at hlen ⊢
    obtain ⟨htrig, hmax⟩ := lenAfterTrigWrite_rises hlen
    exact .inr ⟨v, rfl, (getLsbD_seven_iff v).1 htrig, hmax⟩

/-- Settles O50: of what an operation can do to a record only these WRITEs raise the length counter. -/
theorem lengthRisesOnlyByTheseWrites : Obligations.LengthRisesOnlyByTheseWrites := by
  intro i s t c h hlen
  obtain e | ⟨e, -⟩ | hw | ⟨dsm, div, -, rfl⟩ := (exec_effect h).ch_cases c
  · exact absurd hlen (by rw [e]; exact lt_irrefl _)
  · exact absurd hlen (by rw [e]; exact Nat.not_lt_zero _)
  · exact hw.raises hlen
  · rw [State.advance_ch] at hlen
    obtain ⟨-, -, hle⟩ := Channel.tickAs_from c s.params.duty s.mem (s.fsClock dsm div).fsEdgeStep
      { s.ch c with edge := (s.ch c).edge || fsEdgeSeen s.params dsm s.divSnap div }
    exact absurd hlen (Nat.not_lt.2 hle)

end Sys2Proof.Machine
end

section
/-! The wave channel alone in the mix (spec/44_wave_channel.md R252, R254, spec/46_mixer_resampler.md R290 to R292). -/

namespace Sys2Proof.Machine

open Sys2Proof.Claims

/-- With the pulse and noise channels off the mix has channel 3's share alone (R290, R291). -/
theorem State.outputSum_of_waveOnly (s : State) {t : State} (h : ∀ c, c ≠ .c3 → (t.ch c).on = false) :
    s.outputSum t = s.waveShare t.ch3.on := by
  have h1 : pulseOut s.params t.ch1 = 0 := pulseOut_of_off _ (h .c1 nofun)
  have h2 : pulseOut s.params t.ch2 = 0 := pulseOut_of_off _ (h .c2 nofun)
  have h4 : noiseOut t.ch4 = 0 := noiseOut_of_off (h .c4 nofun)
  rw [State.outputSum, h1, h2, h4, Nat.zero_add, Nat.add_zero]

section
variable {s : State} {dsm : Bool} {div : Byte}

theorem State.advance_ch_on_of_volumeDacOff {c : Ch} (hc : c ≠ .c3) (hdac : ¬ volumeDacOn (s.ch c)) :
    ((s.advance dsm div).ch c).on = false := by
  have hoff : ¬ dacOn s c := by
    rintro (⟨h3, -⟩ | ⟨-, hon⟩)
    · exact hc h3
    · exact hdac hon
  rw [State.advance_ch_of_dacOff dsm div hoff]

/-- With its DAC on channel 3 is on after an ADVANCE exactly if it was on or is triggered, and its length does not expire: the two
counts behind the on gate leave the flag (R222, R223, R251). -/
theorem State.advance_ch3_on_iff (hedges : s.EdgesClear) (hdac : waveDacOn s.ch3) : (s.advance dsm div).ch3.on = true ↔
    (s.ch3.on = true ∨ pendingTrigger s.ch3) ∧ ¬ lengthExpires s dsm div s.ch3 := by
  obtain ⟨sw, env, e, -⟩ := State.advance_ch_of_dacOn (c := .c3) dsm div (.inl ⟨rfl, hdac⟩)
  have hon : (s.advance dsm div).ch3.on = (s.gateCh dsm div .c3).on :=
    (congrArg Channel.on e).trans (Channel.playAs_on .c3 _ _ _ _ (.inl nofun))
  rw [hon]
  exact State.gateCh_on_iff (c := .c3) hedges

/-- The share of a channel 3 that stays on with no trigger: the average, rounded down, at the two positions its cursor counts to (R252). -/
theorem State.waveShare_of_noTrigger (hdac : waveDacOn s.ch3) (hno : ¬ pendingTrigger s.ch3) :
    let a := countOnce (periodNo s.ch3) (s.ch3.pcnt.toNat, s.ch3.idx.toNat)
    let b := countOnce (periodNo s.ch3) a
    s.waveShare true = (waveOutAt s (a.2 % 32) + waveOutAt s (b.2 % 32)) / 2 := by
  have hstart : waveStart s.ch3 = (s.ch3.pcnt.toNat, s.ch3.idx.toNat) := if_neg hno
  rw [State.waveShare, hstart]
  exact if_pos ⟨hdac, rfl⟩

end

/-- Settles O38: with no edge the length cannot expire, so channel 3 stays on, and its share is the whole sum that is mixed. -/
theorem waveOutputAverage : Obligations.WaveOutputAverage := by
  intro s dsm div hinit hedges hedge hdac hon hno h1 h2 h4 htwo
  refine ⟨_, exec_advance_of_init hinit dsm div, ?_⟩
  have hplays : (s.advance dsm div).ch3.on = true :=
    (State.advance_ch3_on_iff hedges hdac).2 ⟨.inl hon, fun ⟨⟨hseen, _⟩, _⟩ => hedge hseen⟩
  have hothers (c : Ch) (hc : c ≠ .c3) : ((s.advance dsm div).ch c).on = false := by
    refine State.advance_ch_on_of_volumeDacOff hc ?_
    cases c with
    | c1 => exact h1
    | c2 => exact h2
    | c3 => exact absurd rfl hc
    | c4 => exact h4
  obtain ⟨hrs, -⟩ := s.advance_mixes dsm div (Resampler.mixStep_of_two_le s.params _ htwo)
  rw [hrs, s.outputSum_of_waveOnly hothers, hplays, State.waveShare_of_noTrigger hdac hno]

end Sys2Proof.Machine
end

section
/-! The mixer and the resampler (spec/46_mixer_resampler.md R290 to R299): the range of a sample, what an ADVANCE does not read (R296),
the sink's plan (R295), and which ADVANCEs emit (R297). -/

namespace Sys2Proof.Machine

open Sys2Proof.Claims

/-! ### The range of a sample (R290, R299) -/

/-- A sample is an average of sums of at most 60, each times `MIX_SCALE` (R293). -/
theorem Resampler.mixStep_sample_le {p : Params} {sum : Nat} (hsum : sum ≤ 60) {r : Resampler} (h : r.acc ≤ r.count * 60 * p.mixScale)
    {x : Nat} (hx : (r.mixStep p sum).2 = some x) : x ≤ 60 * p.mixScale := by
  obtain ⟨-, e⟩ | ⟨-, e⟩ := r.mixStep_cases p sum <;> rw [e] at hx
  · cases hx
  · obtain rfl := Option.some.inj hx
    refine Nat.div_le_of_le_mul ?_
    calc r.acc + p.mixScale * sum
        ≤ r.count * 60 * p.mixScale + p.mixScale * 60 := Nat.add_le_add h (Nat.mul_le_mul_left _ hsum)
      _ = (r.count + 1) * (60 * p.mixScale) := by ring

/-- The sample pair an ADVANCE answers is its mix step's sample, twice (R295, R296). -/
theorem State.advance_result_eq_some_iff (s : State) (dsm : Bool) (div : Byte) (l r : Nat) :
    (s.advance dsm div).result = .advanced (some (l, r)) ↔
      (s.rs.mixStep s.params (s.fsClock dsm div).tickChannels.2).2 = some l ∧ l = r := by
  obtain ⟨-, hresult, -⟩ := s.advance_mixes dsm div rfl
  rw [hresult, State.advance_outputSum]
  cases (s.rs.mixStep s.params (s.outputSum (s.advance dsm div))).2 with
  | none => simp
  | some x =>
    simp only [Option.map_some, OpResult.advanced.injEq, Option.some.injEq, Prod.mk.injEq]
    exact and_congr_right fun hl => by rw [hl]

/-- Settles O42: the four outputs sum to at most 60, and the accumulator holds at most 60 times `MIX_SCALE` for each cycle counted. -/
theorem emittedSampleIsInRange : Obligations.EmittedSampleIsInRange := by
  intro s t dsm div l r hinit hok ht hresult
  obtain ⟨-, -, -, hacc⟩ := hok
  rw [exec_advance_next_iff, if_pos hinit] at ht
  subst ht
  obtain ⟨hsample, hpair⟩ := (s.advance_result_eq_some_iff dsm div l r).1 hresult
  exact ⟨hpair, Resampler.mixStep_sample_le (State.tickChannels_le _) hacc hsample⟩

/-! ### NR50 and NR51 (R296) -/

theorem State.mix_setPanning (sum : Nat) (s : State) (a b : Byte) :
    ({ s with nr50 := a, nr51 := b } : State).mix sum = { s.mix sum with nr50 := a, nr51 := b } := by
  cases h : (s.rs.mixStep s.params sum).2 with
  | none =>
    rw [s.mix_of_none sum h]
    exact State.mix_of_none sum { s with nr50 := a, nr51 := b } h
  | some x =>
    rw [s.mix_of_some sum x h]
    exact State.mix_of_some sum { s with nr50 := a, nr51 := b } x h

/-- Neither the clock and the ticks nor the mix read the two registers. -/
theorem State.advance_setPanning (dsm : Bool) (div : Byte) (s : State) (a b : Byte) :
    ({ s with nr50 := a, nr51 := b } : State).advance dsm div = { s.advance dsm div with nr50 := a, nr51 := b } := by
  have hticks : (({ s with nr50 := a, nr51 := b } : State).fsClock dsm div).tickChannels =
      ({ (s.fsClock dsm div).tickChannels.1 with nr50 := a, nr51 := b }, (s.fsClock dsm div).tickChannels.2) := by
    unfold State.fsClock
    dsimp only
    split <;> rfl
  rw [State.advance, hticks]
  exact State.mix_setPanning _ _ a b

/-- Settles O45: an ADVANCE does not read the two registers, nor does its refusal, and a sample is one average, given twice. -/
theorem panningAndMasterVolumeDoNothing : Obligations.PanningAndMasterVolumeDoNothing := by
  intro s t dsm div a b ht
  rw [exec_advance_next_iff] at ht
  rw [exec_advance_next_iff, State.advance_setPanning]
  subst ht
  refine ⟨?_, fun l r hresult hinit => ?_⟩
  · split <;> rfl
  · have hadmitted : s.init = true := by simpa using hinit
    rw [if_pos hadmitted] at hresult
    exact ((s.advance_result_eq_some_iff dsm div l r).1 hresult).2

/-! ### The sink's plan (R295, spec/60_exceptions.md R312 case 4) -/

/-- A mix step with a plan is the one without, but that an emission turns each word of the plan into a refusal (assumption log 5). -/
theorem State.mix_setSinkPlan (sum : Nat) {s : State} (hplan : s.sinkPlan = []) (plan : List TWord) :
    ({ s with sinkPlan := plan } : State).mix sum =
      if (s.mix sum).samples = s.samples then { s.mix sum with sinkPlan := plan }
      else { s.mix sum with refusals := (s.mix sum).refusals ++ List.replicate plan.length .sinkReentry, sinkPlan := [] } := by
  cases h : (s.rs.mixStep s.params sum).2 with
  | none =>
    rw [s.mix_of_none sum h, if_pos rfl]
    exact State.mix_of_none sum { s with sinkPlan := plan } h
  | some x =>
    rw [s.mix_of_some sum x h, if_neg (by simp [State.emit]), State.mix_of_some sum { s with sinkPlan := plan } x h]
    simp [State.emit, hplan]

/-- The clock and the ticks do not read the plan. -/
theorem State.advance_setSinkPlan (dsm : Bool) (div : Byte) {s : State} (hplan : s.sinkPlan = []) (plan : List TWord) :
    ({ s with sinkPlan := plan } : State).advance dsm div =
      if (s.advance dsm div).samples = s.samples then { s.advance dsm div with sinkPlan := plan }
      else { s.advance dsm div with
        refusals := (s.advance dsm div).refusals ++ List.replicate plan.length .sinkReentry, sinkPlan := [] } := by
  have hticks : (({ s with sinkPlan := plan } : State).fsClock dsm div).tickChannels =
      ({ (s.fsClock dsm div).tickChannels.1 with sinkPlan := plan }, (s.fsClock dsm div).tickChannels.2) := by
    unfold State.fsClock
    dsimp only
    split <;> rfl
  have hticked : (s.fsClock dsm div).tickChannels.1.sinkPlan = [] := (s.fsClock_sinkPlan dsm div).trans hplan
  have hsamples : (s.fsClock dsm div).tickChannels.1.samples = s.samples := s.fsClock_samples dsm div
  rw [State.advance, hticks, ← hsamples]
  exact State.mix_setSinkPlan _ hticked plan

/-- Settles O43: an ADVANCE reads the plan at an emission only. -/
theorem sinkReentryIsRefused : Obligations.SinkReentryIsRefused := by
  intro s t dsm div plan hinit hplan ht
  rw [exec_advance_next_iff, if_pos hinit] at ht
  subst ht
  rw [← State.advance_setSinkPlan dsm div hplan plan]
  exact exec_advance_of_init (s := { s with sinkPlan := plan }) hinit dsm div

/-! ### The ADVANCEs that emit (R294, R297) -/

/-- `T(k)` (R297), the number of the ADVANCE that emits the k-th sample; 0 for `k = 0`. -/
def dueAdvance (p : Params) (k : Nat) : Nat := k * p.q + (k - 1) * p.rm / p.sampleHz

theorem dueAdvance_zero (p : Params) : dueAdvance p 0 = 0 := by simp [dueAdvance]

theorem dueAdvance_one (p : Params) : dueAdvance p 1 = p.q := by simp [dueAdvance]

theorem dueAdvance_strictMono {p : Params} (hq : 1 ≤ p.q) : StrictMono (dueAdvance p) := by
  refine strictMono_nat_of_lt_succ fun k => ?_
  have hquot : (k - 1) * p.rm / p.sampleHz ≤ (k + 1 - 1) * p.rm / p.sampleHz :=
    Nat.div_le_div_right (Nat.mul_le_mul_right _ (by omega))
  have hmul : (k + 1) * p.q = k * p.q + p.q := Nat.succ_mul ..
  rw [dueAdvance, dueAdvance]
  omega

/-- The resampler between ADVANCEs, `n` of them and `j` samples after a reset: the next sample is due at `T(j+1)`, and the remainder
is what `T` has rounded off. -/
structure Resampler.OnSchedule (p : Params) (n j : Nat) (r : Resampler) : Prop where
  emitted : dueAdvance p j ≤ n
  next : n + r.countdown = dueAdvance p (j + 1)
  pos : 1 ≤ r.countdown
  rem : r.rem = j * p.rm % p.sampleHz

theorem Resampler.OnSchedule.init {p : Params} (hq : 1 ≤ p.q) {r : Resampler} (hcountdown : r.countdown = p.q) (hrem : r.rem = 0) :
    r.OnSchedule p 0 0 where
  emitted := (dueAdvance_zero p).le
  next := by rw [hcountdown, dueAdvance_one p, Nat.zero_add]
  pos := hcountdown ▸ hq
  rem := by rw [hrem, Nat.zero_mul, Nat.zero_mod]

section
variable {p : Params} {r : Resampler} {j : Nat}

/-- The Bresenham step: a reload carries exactly where the quotient of `T` goes up by one (R294). -/
theorem Resampler.dueAdvance_add_reload (hhz : 1 ≤ p.sampleHz) (hrem : r.rem = j * p.rm % p.sampleHz) :
    dueAdvance p (j + 1) + (r.reload p).countdown = dueAdvance p (j + 2) := by
  have hlt : p.rm < p.sampleHz := Nat.mod_lt _ hhz
  have hquot : (j + 1) * p.rm / p.sampleHz = j * p.rm / p.sampleHz + if p.sampleHz ≤ r.rem + p.rm then 1 else 0 := by
    rw [Nat.succ_mul, Nat.add_div hhz, Nat.div_eq_of_lt hlt, Nat.mod_eq_of_lt hlt, hrem, Nat.add_zero]
  have hmul : (j + 2) * p.q = (j + 1) * p.q + p.q := Nat.succ_mul ..
  rw [r.reload_countdown, dueAdvance, dueAdvance, Nat.add_sub_cancel, show j + 2 - 1 = j + 1 from rfl, hquot, hmul]
  split <;> omega

theorem Resampler.reload_rem (hhz : 1 ≤ p.sampleHz) (hrem : r.rem = j * p.rm % p.sampleHz) :
    (r.reload p).rem = (j + 1) * p.rm % p.sampleHz := by
  have hlt : p.rm < p.sampleHz := Nat.mod_lt _ hhz
  have hold : r.rem < p.sampleHz := hrem ▸ Nat.mod_lt _ hhz
  have hnext : (j + 1) * p.rm % p.sampleHz = (r.rem + p.rm) % p.sampleHz := by
    rw [Nat.succ_mul, Nat.add_mod, ← hrem, Nat.mod_eq_of_lt hlt]
  rw [hnext, Resampler.reload]
  split
  · next hcarry => rw [Nat.mod_eq_sub_mod hcarry, Nat.mod_eq_of_lt (by omega)]
  · next hno => exact (Nat.mod_eq_of_lt (not_le.1 hno)).symm

/-- A mix step counts one ADVANCE more, and one sample more if it emits one. -/
theorem Resampler.OnSchedule.mixStep {n : Nat} (h : r.OnSchedule p n j) (hwf : p.wellFormed = true) (sum : Nat) :
    (r.mixStep p sum).1.OnSchedule p (n + 1) (j + (r.mixStep p sum).2.toList.length) := by
  obtain ⟨hhz, hq⟩ := (paramsWellFormed_iff p).1 hwf
  obtain ⟨hemitted, hnext, hpos, hrem⟩ := h
  obtain ⟨hne, e⟩ | ⟨heq, e⟩ := r.mixStep_cases p sum <;> rw [e]
  · have hsame : n + 1 + (r.countdown - 1) = dueAdvance p (j + 1) := by omega
    exact ⟨Nat.le_succ_of_le hemitted, hsame, Nat.pos_of_ne_zero hne, hrem⟩
  · have hdue : n + 1 = dueAdvance p (j + 1) := by omega
    have hacc : (r.accumulate p sum).rem = j * p.rm % p.sampleHz := hrem
    refine ⟨hdue.ge, ?_, ?_, Resampler.reload_rem hhz hacc⟩
    · rw [hdue]
      exact Resampler.dueAdvance_add_reload hhz hacc
    · rw [Resampler.reload_countdown]
      split <;> omega

/-- The number of samples is the last `k` with `T(k) <= n`. -/
theorem Resampler.OnSchedule.samples_eq {n k : Nat} (h : r.OnSchedule p n j) (hq : 1 ≤ p.q) (hlo : dueAdvance p k ≤ n)
    (hhi : n < dueAdvance p (k + 1)) : j = k := by
  have hmono := dueAdvance_strictMono hq
  obtain ⟨hemitted, hnext, hpos, -⟩ := h
  have hjk : j < k + 1 := hmono.lt_iff_lt.1 (hemitted.trans_lt hhi)
  have hkj : k < j + 1 := hmono.lt_iff_lt.1 (by omega)
  omega

end

/-- A state on the schedule of `T`, `n` ADVANCEs after one that held `base` samples. -/
structure State.OnSchedule (p : Params) (base n : Nat) (s : State) : Prop where
  init : s.init = true
  params : s.params = p
  schedule : ∃ j, s.samples.length = base + j ∧ s.rs.OnSchedule p n j

section
variable {p : Params} {base : Nat}

/-- Whatever the channels and the divider do, they reach the schedule only through the sum that is mixed. -/
theorem State.OnSchedule.advance {n : Nat} {s : State} (h : s.OnSchedule p base n) (hwf : p.wellFormed = true) (dsm : Bool) (div : Byte) :
    (s.advance dsm div).OnSchedule p base (n + 1) := by
  obtain ⟨hinit, rfl, j, hlen, hrs⟩ := h
  obtain ⟨hrs', -, hsamples⟩ := s.advance_mixes dsm div rfl
  refine ⟨(s.advance_init dsm div).trans hinit, s.advance_params dsm div, _, ?_, hrs' ▸ hrs.mixStep hwf _⟩
  rw [hsamples, List.length_append, hlen, Option.toList_map, List.length_map, Nat.add_assoc]

theorem State.OnSchedule.runAdvances (hwf : p.wellFormed = true) (ops : List (Bool × Byte)) :
    ∀ {n : Nat} {s : State}, s.OnSchedule p base n →
      ∃ t, runAdvances ops s = .next t ∧ t.OnSchedule p base (n + ops.length) := by
  induction ops with
  | nil => exact fun {_ s} h => ⟨s, rfl, h⟩
  | cons a ops ih =>
    intro n s h
    obtain ⟨t, hrun, ht⟩ := ih (h.advance hwf a.1 a.2)
    refine ⟨t, ?_, ?_⟩
    · rw [Claims.runAdvances, exec_advance_of_init h.init]
      exact hrun
    · rwa [List.length_cons, Nat.add_comm ops.length, ← Nat.add_assoc]

end

/-- Settles O44: a reset resampler is on the schedule and every ADVANCE keeps it there; `T` grows strictly, so the number of ADVANCEs
tells the number of samples. -/
theorem sampleCadence : Obligations.SampleCadence := by
  intro s ops k hinit hwf hk hrs
  dsimp only
  obtain ⟨-, hq⟩ := (paramsWellFormed_iff s.params).1 hwf
  have hstart : s.OnSchedule s.params s.samples.length 0 :=
    ⟨hinit, rfl, 0, rfl, Resampler.OnSchedule.init hq (congrArg Resampler.countdown hrs) (congrArg Resampler.rem hrs)⟩
  obtain ⟨t, hrun, -, -, j, hlen, hsched⟩ := hstart.runAdvances hwf ops
  have hmono := dueAdvance_strictMono hq
  rw [Nat.zero_add] at hsched
  refine ⟨t, hrun, fun hdue => ?_, fun hdue => ?_⟩
  · change ops.length = dueAdvance s.params k at hdue
    rw [hlen, hsched.samples_eq hq hdue.ge (hdue ▸ hmono k.lt_succ_self)]
  · obtain ⟨m, rfl⟩ : ∃ m, k = m + 1 := ⟨k - 1, by omega⟩
    change ops.length + 1 = dueAdvance s.params (m + 1) at hdue
    have hlast : dueAdvance s.params m < dueAdvance s.params (m + 1) := hmono m.lt_succ_self
    rw [hlen, hsched.samples_eq hq (k := m) (by omega) (by omega), Nat.add_sub_cancel]

end Sys2Proof.Machine
end

section
/-! Before the first RESET (spec/60_exceptions.md R312 case 1): the one word that RESET has, and the refusal of every other. -/

namespace Sys2Proof

/-- RESET's row keeps every bit, so RESET has one word (R92). -/
theorem eq_resetWord_of_decode {w : TWord} (h : decode w = .ok .reset) : w = 0x3000000 :=
  BitVec.and_allOnes.symm.trans (decodedWordMatchesItsRow w .reset h)

end Sys2Proof

namespace Sys2Proof.Machine

open Sys2Proof.Claims

/-- Any operation but RESET before the first RESET: the refusal is recorded (R64). -/
theorem exec_before_reset {i : Instr} {s : State} (hi : i ≠ .reset) (hinit : s.init = false) :
    exec i s = .next (refusedWith s .beforeReset) := by
  obtain ⟨f, hf⟩ := exec_is_admitOp i hi
  rw [hf]
  exact admitOp_before_reset f s hinit

/-- A word with no row before the first RESET: the refusal is recorded, whatever the decoder's reason (B1). -/
theorem State.refuseWord_before_reset (e : DecodeError) {s : State} (hinit : s.init = false) :
    s.refuseWord e = refusedWith s .beforeReset := by
  rw [State.refuseWord, hinit]
  rfl

/-- Settles O9: a word that decodes is that of an operation other than RESET, and one that does not is refused for the same reason. -/
theorem wordsBeforeResetAreRefused : Obligations.WordsBeforeResetAreRefused := by
  intro s w rest hinit hp hw
  cases hd : decode w with
  | ok i =>
    have hi : i ≠ .reset := fun h => hw (eq_resetWord_of_decode (h ▸ hd))
    rw [step_of_decode s w rest i hp hd, exec_before_reset hi]
    exact hinit
  | error e =>
    rw [step_of_error s w rest e hp hd, State.refuseWord_before_reset]
    exact hinit

end Sys2Proof.Machine
end

section
/-! RESET, the power-off and what both make the registers read as (spec/70_reset_and_hazards.md R330, R333). -/

namespace Sys2Proof.Machine

open Sys2Proof.Claims

/-! ### RESET (R330) -/

theorem exec_reset (s : State) : exec .reset s = .next s.resetApu := rfl

/-- RESET reads only what it keeps. -/
theorem State.resetApu_idem (s : State) : s.resetApu.resetApu = s.resetApu := rfl

theorem State.resetWith_ch (p : Params) (c : Ch) : (State.resetWith p).ch c = Channel.zero := by cases c <;> rfl

theorem State.resetApu_ch (s : State) (c : Ch) : s.resetApu.ch c = Channel.zero := by cases c <;> rfl

/-- Settles O12: the state is `State.resetApu`, whose fields its laws give. -/
theorem resetZeroesTheState : Obligations.ResetZeroesTheState :=
  ⟨decode_resetWord 0 0, fun s => ⟨s.resetApu, exec_reset s, s.resetApu_idem ▸ exec_reset s.resetApu, s.resetApu_ch,
    rfl, rfl, rfl, fun _ => rfl, rfl, rfl, rfl, rfl, rfl, rfl, rfl, rfl, rfl, rfl, rfl, rfl, rfl⟩⟩

/-! ### The invariants at reset (spec/10_state.md R25, R60, R62, R63) -/

/-- What holds of a zero record holds of every record after RESET. -/
theorem ChannelInvariant.resetWith {P : Ch → Channel → Prop} (hP : ChannelInvariant P) (p : Params) (c : Ch) :
    P c ((State.resetWith p).ch c) := (State.resetWith_ch p c).symm ▸ hP.zero c

theorem resetWith_resamplerOk {p : Params} (hwf : p.wellFormed = true) : (State.resetWith p).ResamplerOk := by
  obtain ⟨hhz, hq⟩ := (paramsWellFormed_iff p).1 hwf
  exact ⟨hq, by simp, hhz, Nat.zero_le _⟩

/-- Settles O57: a zero record meets every channel invariant, and the parameters R7 admits put the resampler in range. -/
theorem resetMeetsTheInvariants : Obligations.ResetMeetsTheInvariants := fun p hwf =>
  ⟨resetWith_mem_wf p, lengthsOk_channelInvariant.resetWith p, noiseOk_channelInvariant.resetWith p .c4 rfl,
    edgesClear_channelInvariant.resetWith p, fun _ => ⟨State.resetWith_ch p, rfl, rfl⟩, resetWith_resamplerOk hwf,
    (State.layoutOk_iff _).2 (layout_channelInvariant.resetWith p), rfl⟩

/-! ### The read-back values (R333) -/

/-- NR52 shows its three fixed bits only (spec/40_register_bank.md R123). -/
theorem State.nr52Value_powerOff (s : State) : s.powerOff.nr52Value = 0x70 := s.powerOff.nr52Value_eq

section
variable {s : State} (hinit : s.init = true)
include hinit

/-- A power-off zeroes every slot, so each reads as its mask (spec/40_register_bank.md R112). -/
theorem readOp_loadReg_powerOff (c : Ch) (j : Fin 5) (mask : Byte) :
    readOp (State.loadReg c j mask) s.powerOff = .next (answered s.powerOff mask) := by
  have hslot : (s.powerOff.ch c).reg j = 0 := by
    rw [s.powerOff_ch]
    fin_cases j <;> rfl
  have hbyte : (s.powerOff.ch c).reg j ||| mask = mask := hslot ▸ BitVec.zero_or
  rw [readOp_loadReg (s := s.powerOff) hinit, hbyte]

/-- The table of R333 in its order: the slots by their masks, the unused addresses, NR50 and NR51, and NR52. -/
theorem exec_resetReadBack_powerOff : ∀ e ∈ resetReadBack, exec e.1 s.powerOff = .next (answered s.powerOff e.2) := by
  have slot := readOp_loadReg_powerOff hinit
  have unused : readUnused s.powerOff = .next (answered s.powerOff 0xFF) := readOp_of_init _ s.powerOff hinit
  have nr52 : readOp State.nr52Value s.powerOff = .next (answered s.powerOff 0x70) :=
    s.nr52Value_powerOff ▸ readOp_of_init _ s.powerOff hinit
  exact List.forall_iff_forall_mem.1
    ⟨slot .c1 0 0x80, slot .c1 1 0x3F, slot .c1 2 0x00, slot .c1 3 0xFF, slot .c1 4 0xBF, unused,
      slot .c2 1 0x3F, slot .c2 2 0x00, slot .c2 3 0xFF, slot .c2 4 0xBF,
      slot .c3 0 0x7F, slot .c3 1 0xFF, slot .c3 2 0x9F, slot .c3 3 0xFF, slot .c3 4 0xBF, unused,
      slot .c4 1 0xFF, slot .c4 2 0x00, slot .c4 3 0x00, slot .c4 4 0xBF,
      readOp_of_init State.nr50 s.powerOff hinit, readOp_of_init State.nr51 s.powerOff hinit,
      nr52, unused, unused, unused, unused, unused, unused, unused, unused, unused⟩

end

/-- The registers after RESET are those of a powered-off block. -/
theorem State.resetWith_powerOff (p : Params) : (State.resetWith p).powerOff = State.resetWith p := rfl

theorem exec_rdWave (s : State) (k : BitVec 4) (hinit : s.init = true) :
    exec (.rdWave k) s = .next (answered s (s.waveByte k)) := readOp_of_init (fun s => s.waveByte k) s hinit

/-- Settles O13: RESET and a power-off both leave a powered-off block, wave RAM empty after the one and untouched by the other. -/
theorem readBackAfterReset : Obligations.ReadBackAfterReset := by
  refine ⟨fun p => ⟨fun e he => ?_, fun k => ⟨_, exec_rdWave (State.resetWith p) k rfl, rfl⟩⟩, fun s v hinit hv => ?_⟩
  · exact ⟨_, State.resetWith_powerOff p ▸ exec_resetReadBack_powerOff rfl e he, rfl⟩
  · refine ⟨wrote s.powerOff, ?_, fun e he => ?_, fun k => ⟨_, exec_rdWave (wrote s.powerOff) k hinit, rfl⟩⟩
    · rw [exec_wrNr52 s v hinit, if_pos hv]
    · exact ⟨_, exec_resetReadBack_powerOff (s := wrote s) hinit e he, rfl⟩

end Sys2Proof.Machine
end
